-- ==== Sys2Proof/Word.lean ====
section
/-! DEFINITION. The word type of the PD2416's link (a byte) and the two levels of a line. -/

namespace Sys2Proof

/-- One byte on the serial link (R168: 8 data bits). -/
abbrev Byte := BitVec 8

/-- The level of a plain line: LOW or HIGH (00_scope.md, Names and values). -/
inductive Level where
  | low
  | high
deriving DecidableEq, Repr

/-- The other level; a line's active level is the level opposite its rest level (R120). -/
def Level.opposite : Level → Level
  | .low => .high
  | .high => .low

end Sys2Proof
end

