-- ==== Sys2Proof/Syntax.lean ====
section
/-! DEFINITION. The commands of the PD2416: one constructor per row of spec/opcode_table.json, in the table's order.
A request row carries the tag byte and the payload bytes of its frame (R169); a row that names a byte received carries
that byte; a row at whose end or at which pins are sampled carries their levels. -/

namespace Sys2Proof

inductive Instr where
  -- requests: a good request frame of the kind named, with its tag and payload (Table 11-2)
  | identify (tag : Byte) (payload : List Byte)
  | linkQuery (tag : Byte) (payload : List Byte)
  | restart (tag : Byte) (payload : List Byte)
  | timeSet (tag : Byte) (payload : List Byte)
  | timeGet (tag : Byte) (payload : List Byte)
  | scheduleQuery (tag : Byte) (payload : List Byte)
  | timerDefine (tag : Byte) (payload : List Byte)
  | timerStart (tag : Byte) (payload : List Byte)
  | timerStop (tag : Byte) (payload : List Byte)
  | timerPause (tag : Byte) (payload : List Byte)
  | timerResume (tag : Byte) (payload : List Byte)
  | timerFree (tag : Byte) (payload : List Byte)
  | timerQuery (tag : Byte) (payload : List Byte)
  | watchDefine (tag : Byte) (payload : List Byte)
  | watchStart (tag : Byte) (payload : List Byte)
  | checkPrep (tag : Byte) (payload : List Byte)
  | checkConf (tag : Byte) (payload : List Byte)
  | watchRetune (tag : Byte) (payload : List Byte)
  | watchRetire (tag : Byte) (payload : List Byte)
  | watchRelease (tag : Byte) (payload : List Byte)
  | watchQuery (tag : Byte) (payload : List Byte)
  | lineConfig (tag : Byte) (payload : List Byte)
  | lineSet (tag : Byte) (payload : List Byte)
  | lineHold (tag : Byte) (payload : List Byte)
  | lineUnhold (tag : Byte) (payload : List Byte)
  | lineQuery (tag : Byte) (payload : List Byte)
  | inputConfig (tag : Byte) (payload : List Byte)
  | inputQuery (tag : Byte) (payload : List Byte)
  | noticeAck (tag : Byte) (payload : List Byte)
  | faultQuery (tag : Byte) (payload : List Byte)
  | faultClear (tag : Byte) (payload : List Byte)
  /-- A good frame whose kind code names no request (R178). -/
  | unknownRequest (kind : Byte) (tag : Byte) (payload : List Byte)
  -- hand-overs by the expiry engine: of the head of the deadline list, when it is of the kind named (R11)
  | timerExpiry
  | renewalDeadlineExpiry
  | graceDeadlineExpiry
  | settleDeadlineExpiry
  | retripDeadlineExpiry
  | pulseEnd
  | rstoPulseEnd
  | resendDeadlineExpiry
  /-- The sample of a tick (R140): bit n is the level on INn. `order` names the lines whose edges are taken first, in
  that order; the others follow in ascending order (R142 leaves the order open: log entry 3). -/
  | inputSample (levels : BitVec 8) (order : List (Fin 8))
  -- the receiver: bytes and gaps on RXD (R170 to R174)
  /-- The last byte of a frame, its second CRC byte (R172, R174). -/
  | frameReceived (byte : Byte)
  | noiseByte (byte : Byte)
  | badLengthAbandon (byte : Byte)
  | gapTimeout
  -- the transmitter (R180)
  | transmitComplete
  -- resets: `pins` are the levels of IN0 to IN7 and `spd` that of SPD at the end of the reset (R140, R168)
  | restartReset (pins : BitVec 8) (spd : Level)
  /-- Supply applied with RST_N at `rstN`; held LOW it stays in reset until RST_N returns HIGH (R116). -/
  | powerOn (rstN : Level) (pins : BitVec 8) (spd : Level)
  | rstNAssert
  | rstNRelease (pins : BitVec 8) (spd : Level)
  -- the receiver, continued (the table's last two rows)
  | startByte
  | frameContentByte (byte : Byte)
deriving DecidableEq, Repr

end Sys2Proof
end

