-- ==== Sys2Proof/Decode.lean ====
section
/-! DEFINITION. Reading a command from a word of spec/opcode_table.json. The table gives no row any bits: the commands of
the PD2416 are frames, edges, expiries and events, none of which is a word of one encoding. -/

namespace Sys2Proof

/-- The command a word spells by the table's bits: none, for no row of the table gives bits (log entry 12). -/
def decodeTableWord (_nbits _w : Nat) : Option Instr := none

end Sys2Proof
end

