-- ==== Sys2Proof/Config.lean ====
section
/-! DEFINITION. What is fixed for the PD2416 (its capacities and limits, from the rules named) and the FREE VALUES:
constants without a body for the values the spec leaves unstated. Nothing in Lean can evaluate a free value. -/

namespace Sys2Proof.Config

/-- The largest elapsed time, 2^48 - 1, at which elapsed time holds and at which a later due instant is recorded (R1). -/
def maxElapsed : Nat := 281474976710655

/-- The largest wall time TIME_SET takes and the limit of the due wall field, 2^47 - 1 (R4, R24, R51). -/
def maxDueWall : Nat := 140737488355327

/-- Where a 16-bit counter stops (00_scope.md, Counters). -/
def maxCount16 : Nat := 65535

/-- Capacity of the deadline list (R8). -/
def deadlineCapacity : Nat := 50

/-- Capacity of the notice queue (R154). -/
def noticeCapacity : Nat := 32

/-- At most this many notices are SENT (R154, R158). -/
def sendWindow : Nat := 4

/-- The resend interval in milliseconds (R159, R161, R162). -/
def resendInterval : Nat := 250

/-- Capacity of the receive queue (R174). -/
def receiveCapacity : Nat := 4

/-- Capacity of the reply queue (R176). -/
def replyCapacity : Nat := 4

/-- At most this many trip entries stand in the fault record (R114). -/
def tripCapacity : Nat := 4

/-- No timer's chain depth exceeds this (R22, R28). -/
def chainDepthLimit : Nat := 4

/-- The number of consecutive trips of watch 0 at which LOCKOUT is set (R111). -/
def lockoutTrips : Nat := 3

/-- The largest payload of a frame (R169). -/
def maxPayload : Nat := 56

/-- FREE VALUE (log entry 5). The wall offset that a TIME_SET of the first argument, taken at the elapsed time of the
second, leaves where the given wall value minus now lies outside the signed 48-bit range (R4 keeps it inside for the
first 2^47 ms of elapsed time only). -/
opaque offsetBeyond : Nat → Nat → BitVec 48

/-- FREE VALUE (log entry 6). The step field of a TIME_SET reply whose step lies outside signed 48 bits (R4, R188). -/
opaque stepBeyond : Int → BitVec 48

/-- FREE VALUE (log entry 7). A 48-bit wall time field whose wall time lies outside 0 to 2^48 - 1 (R3, R114). -/
opaque wallBeyond : Int → BitVec 48

/-- FREE VALUE (log entry 8). The 16-bit remaining field of a TIMER_QUERY reply for an ABSOLUTE timer more than 65535
units of its scale from its due instant (R41, Table 11-8). -/
opaque remainingBeyond : Nat → BitVec 16

end Sys2Proof.Config
end

