-- ==== Sys2Proof/Machine/State.lean ====
section
/-! DEFINITION. The state of the PD2416, block by block (Table of blocks in 00_scope.md), as plain data; the ways a step
can stop; and the machine right after reset. A field that is the model's own, not the spec's, says so. -/

namespace Sys2Proof.Machine

/-! ### Timers (Table 2-1) -/

/-- The state of a defined timer (R20). A FREE timer has no record: its place in the table is `none`. -/
inductive TimerState where
  | idle
  | running
  | paused
deriving DecidableEq, Repr

/-- RELATIVE, or ABSOLUTE with its due wall time, 0 to 2^47 - 1 (R19). -/
inductive TimerKind where
  | relative
  | absolute (dueWall : Nat)
deriving DecidableEq, Repr

inductive TimerMode where
  | once
  | repeating
deriving DecidableEq, Repr

/-- The unit of a TIME source: 1 ms, 10 ms, 100 ms or 1 s (R19, R21). -/
inductive Scale where
  | ms1
  | ms10
  | ms100
  | s1
deriving DecidableEq, Repr

/-- Which filtered edges qualify (R21, R61). -/
inductive Edge where
  | rise
  | fall
  | both
deriving DecidableEq, Repr

/-- What a timer's period counts (R21). -/
inductive TimerSource where
  | time (scale : Scale)
  | parent (p : Fin 24)
  | input (n : Fin 8) (edge : Edge)
deriving DecidableEq, Repr

/-- The effect of an output action (R52); the width of a PULSE is in milliseconds. -/
inductive Effect where
  | set
  | clear
  | toggle
  | pulse (width : Nat)
deriving DecidableEq, Repr

structure OutputAction where
  line : Fin 8
  effect : Effect
deriving DecidableEq, Repr

/-- The record of a defined timer (Table 2-1). -/
structure TimerRec where
  state : TimerState
  kind : TimerKind
  mode : TimerMode
  period : Nat
  source : TimerSource
  output : Option OutputAction
  notice : Option Byte
  trigger : Option (Fin 24)
  remaining : Nat
  fires : Nat
  lateCount : Nat
deriving DecidableEq, Repr

/-! ### Watches (Table 4-1, Table 6-1) -/

/-- The state of a defined watch (R64). A FREE watch has no record. -/
inductive WatchState where
  | dormant
  | running
  | warn
  | tripped
  | releasing
deriving DecidableEq, Repr

/-- The check-in phase, OPEN or HALF (R63). -/
inductive Phase where
  | opened
  | half
deriving DecidableEq, Repr

inductive WatchSource where
  | link
  | line (n : Fin 8) (active : Level)
deriving DecidableEq, Repr

/-- The record of a defined watch (Table 4-1). Bit n of the hold set marks OUTn. -/
structure WatchRec where
  state : WatchState
  source : WatchSource
  phase : Phase
  period : Nat
  grace : Nat
  minInterval : Nat
  settle : Nat
  holdSet : BitVec 8
  lastRenewal : Option Nat
  recovery : Nat
  renewals : Nat
  warns : Nat
  earlyFaults : Nat
  outOfStep : Nat
  trips : Nat
deriving DecidableEq, Repr

/-- What watch 0 holds beside its watch record (Table 6-1). -/
structure LinkWatch where
  periodCode : Fin 4
  rstoWidth : Nat
  consecutive : Nat
  lockout : Bool
deriving DecidableEq, Repr

/-! ### Deadline list (R7) -/

/-- The owner of a deadline list entry (Table 1-2). -/
inductive Owner where
  | timer (t : Fin 24)
  | watch (w : Fin 16)
  | pulse (n : Fin 8)
  | rstoPulse
  | resend
deriving DecidableEq, Repr

/-- One entry of the deadline list (R7). `wall` is the due wall time of an absolute timer's entry; `pos` orders the
present entries by insertion. `pastDue` is the model's mark of an entry placed at or before now (R13). -/
structure Entry where
  owner : Owner
  due : Int
  wall : Option Nat
  pos : Nat
  pastDue : Bool
deriving DecidableEq, Repr

/-! ### Lines (Table 7-1, Table 8-1) -/

inductive Shadow where
  | rest
  | active
deriving DecidableEq, Repr

/-- The record of an output line (Table 7-1). The holder set is the watches of `watchHolders` (bit w is watch w) and,
where `hostHolder` is set, HOST. The driven level is not stored (R120, R121). -/
structure LineRec where
  restLevel : Level
  safeLevel : Level
  shadow : Shadow
  binding : Option (Fin 24)
  watchHolders : BitVec 16
  hostHolder : Bool
  pulseEnd : Option Nat
deriving DecidableEq, Repr

inductive TriggerAct where
  | start
  | stop
deriving DecidableEq, Repr

/-- The role of an input line (Table 8-1). -/
inductive Role where
  | none
  | checkin (w : Fin 16)
  | trigger (t : Fin 24) (edge : Edge) (act : TriggerAct)
  | count (t : Fin 24)
deriving DecidableEq, Repr

/-- The record of an input line (Table 8-1). -/
structure InputRec where
  raw : Level
  filtered : Level
  run : Nat
  width : Nat
  role : Role
  edges : Nat
deriving DecidableEq, Repr

/-! ### Notices (Table 9-1, Table 9-2) -/

inductive ResetCause where
  | powerOn
  | pin
  | restart
deriving DecidableEq, Repr

inductive Cause where
  | expired
  | early
  | retrip
  | outOfStep
deriving DecidableEq, Repr

inductive NoticeClass where
  | routine
  | alert
  | alarm
deriving DecidableEq, Repr

/-- The kind of a notice with its subject and detail fields (R153). -/
inductive NoticeBody where
  | started (cause : ResetCause) (generation : Nat)
  | timerFired (t : Fin 24) (tag : Byte) (fires : Nat) (late : Bool) (missed : Nat)
  | watchWarn (w : Fin 16) (cause : Cause)
  | watchRecovered (w : Fin 16)
  | watchTripped (w : Fin 16) (cause : Cause)
  | releaseDone (w : Fin 16)
  | releaseAborted (w : Fin 16) (cause : Cause)
  | linkLockout (consecutive : Nat)
deriving DecidableEq, Repr

/-- UNSENT, or SENT with its sequence number and resend mark (R152). -/
inductive NoticeState where
  | unsent
  | sent (seq : Nat) (mark : Bool)
deriving DecidableEq, Repr

structure Notice where
  body : NoticeBody
  instant : Nat
  lostBefore : Nat
  state : NoticeState
  attempts : Nat
deriving DecidableEq, Repr

/-- The notice queue, oldest first, with its pending loss and next sequence number (R154). -/
structure NoticeQueue where
  queue : List Notice
  pendingLoss : Nat
  nextSeq : Nat
deriving DecidableEq, Repr

/-! ### Link port (Section 10) -/

/-- A frame without its start byte, length byte and CRC, which its payload determines (R169). -/
structure Frame where
  kind : Byte
  tag : Byte
  payload : List Byte
deriving DecidableEq, Repr

/-- The receive assembly: HUNTING, or ASSEMBLING with the bytes taken after the start byte (R170). -/
inductive Assembly where
  | hunting
  | assembling (got : List Byte)
deriving DecidableEq, Repr

/-- The six link counters (R175). -/
structure LinkCounters where
  noise : Nat
  badLength : Nat
  badCrc : Nat
  gap : Nat
  overrun : Nat
  unknownRequest : Nat
deriving DecidableEq, Repr

/-- The link port. `transmitting` is the frame the transmitter carries, if it is not free; `spd` is the level of SPD
sampled at the last reset, which selects the bit rate (R168). -/
structure LinkPort where
  assembly : Assembly
  receiveQueue : List Frame
  replyQueue : List Frame
  transmitting : Option Frame
  counters : LinkCounters
  restartPending : Bool
  spd : Level
deriving DecidableEq, Repr

/-! ### Fault record (R114, R115) -/

structure TripEntry where
  watch : Fin 16
  cause : Cause
  wall : Nat
  elapsed : Nat
  generation : Nat
deriving DecidableEq, Repr

structure FaultRecord where
  entries : List TripEntry
  lastCause : ResetCause
  generation : Nat
deriving DecidableEq, Repr

/-! ### The whole device -/

/-- Running, or in a reset of the given cause: one that lasts while RST_N is LOW (R116, R138), or the reset that follows the
RESTART reply (R185). -/
inductive Mode where
  | running
  | held (cause : ResetCause)
deriving DecidableEq, Repr

/-- All the state of the PD2416. -/
structure Device where
  mode : Mode
  /-- Elapsed time, 48 bits (R1). -/
  elapsed : Nat
  /-- Wall offset, signed 48 bits (R2). -/
  wallOffset : Int
  /-- The deadline list, head first (R8). -/
  deadlines : List Entry
  /-- The owners already handed over at the present instant (R14 makes the engine keep them). -/
  handed : List Owner
  timers : Vector (Option TimerRec) 24
  watches : Vector (Option WatchRec) 16
  linkWatch : LinkWatch
  lines : Vector LineRec 8
  inputs : Vector InputRec 8
  /-- The model's own: the sample of the present tick has not been taken yet (log entry 2). -/
  sampleOwed : Bool
  notices : NoticeQueue
  link : LinkPort
  fault : FaultRecord
deriving DecidableEq, Repr

/-- The device and the queue of the commands that wait for it, first in first out (the queue is the model's own). -/
structure State extends Device where
  pending : List Instr
deriving DecidableEq, Repr

/-- The machine stops with no fault: the spec answers every fault of the host by a status, a counter or a notice. -/
inductive Fault where
deriving DecidableEq, Repr

/-- Why a command has no outcome. -/
inductive Refusal where
  /-- A command with no meaning yet. No arm of `exec` raises it. Safe: the run stops. -/
  | notModelled (mnemonic : String)
deriving DecidableEq, Repr

/-! ### Values after reset -/

/-- Watch 0 after every reset (R85, Table 6-1). -/
def WatchRec.linkDefault : WatchRec where
  state := .running
  source := .link
  phase := .opened
  period := 4000
  grace := 4000
  minInterval := 0
  settle := 100
  holdSet := 0
  lastRenewal := some 0
  recovery := 0
  renewals := 0
  warns := 0
  earlyFaults := 0
  outOfStep := 0
  trips := 0

/-- An output line after every reset (Table 7-1, R138). -/
def LineRec.default : LineRec where
  restLevel := .low
  safeLevel := .low
  shadow := .rest
  binding := none
  watchHolders := 0
  hostHolder := false
  pulseEnd := none

/-- An input line after every reset whose first sample read `level` (Table 8-1, R151). -/
def InputRec.default (level : Level) : InputRec where
  raw := level
  filtered := level
  run := 0
  width := 2
  role := .none
  edges := 0

/-- The six counters at 0 (R175, R187). -/
def LinkCounters.zero : LinkCounters where
  noise := 0
  badLength := 0
  badCrc := 0
  gap := 0
  overrun := 0
  unknownRequest := 0

/-- Every block at its reset values (R17, R18, R42, R85, R119, R138, R151, R166, R187), before the STARTED notice is
appended, with the first samples of the input lines, the level of SPD and the fault record given. -/
def Device.initial (inputs : Vector InputRec 8) (spd : Level) (fault : FaultRecord) : Device where
  mode := .running
  elapsed := 0
  wallOffset := 0
  deadlines := [{ owner := .watch 0, due := 4000, wall := none, pos := 1, pastDue := false }]
  handed := []
  timers := Vector.replicate 24 none
  watches := (Vector.replicate 16 none).set 0 (some WatchRec.linkDefault)
  linkWatch := { periodCode := 2, rstoWidth := 50, consecutive := 0, lockout := false }
  lines := Vector.replicate 8 LineRec.default
  inputs := inputs
  sampleOwed := false
  notices := { queue := [], pendingLoss := 0, nextSeq := 0 }
  link :=
    { assembly := .hunting
      receiveQueue := []
      replyQueue := []
      transmitting := none
      counters := LinkCounters.zero
      restartPending := false
      spd := spd }
  fault := fault

/-- The fault record after a power-on reset (R115). -/
def FaultRecord.powerOn : FaultRecord where
  entries := []
  lastCause := .powerOn
  generation := 0

/-- Right after a power-on reset with RST_N HIGH: every block at its reset values, and the first send of the STARTED
notice begun at elapsed time 0 (R167), which has inserted the resend deadline at 250 (R159). The levels of SPD and of
IN0 to IN7 come from outside: LOW here (log entry 1). -/
def State.reset : State :=
  { Device.initial (Vector.replicate 8 (InputRec.default .low)) .low FaultRecord.powerOn with
    deadlines :=
      [{ owner := .resend, due := 250, wall := none, pos := 2, pastDue := false },
       { owner := .watch 0, due := 4000, wall := none, pos := 1, pastDue := false }]
    notices :=
      { queue :=
          [{ body := .started .powerOn 0, instant := 0, lostBefore := 0, state := .sent 0 false, attempts := 1 }]
        pendingLoss := 0
        nextSeq := 1 }
    link :=
      { assembly := .hunting
        receiveQueue := []
        replyQueue := []
        transmitting :=
          some
            { kind := 0x60
              tag := 0x00
              payload := [0x01, 0x00, 0x01, 0, 0, 0, 0, 0, 0, 0x00, 0xFF, 0x00, 0x00, 0x00, 0x00, 0x00] }
        counters := LinkCounters.zero
        restartPending := false
        spd := .low }
    pending := [] }

end Sys2Proof.Machine
end

