-- ==== Sys2Proof/Machine/Operands.lean ====
section
/-! DEFINITION. How arguments are read from a request's payload and how fields are written into replies and notices:
byte order, code values, presence, and the request kinds (Section 11). -/

namespace Sys2Proof.Machine

/-! ### Fields (R188) -/

/-- The low `k` bytes of `n`, most significant byte first (R188). -/
def beBytes : Nat → Nat → List Byte
  | 0, _ => []
  | k + 1, n => beBytes k (n / 256) ++ [BitVec.ofNat 8 n]

/-- The value of a multi-byte field, most significant byte first (R188). -/
def beValue (bytes : List Byte) : Nat := bytes.foldl (fun acc b => acc * 256 + b.toNat) 0

/-- The byte at an offset of a payload; 0 beyond its end, which no request reaches after its length check. -/
def byteAt (p : List Byte) (i : Nat) : Nat := (p.getD i 0).toNat

/-- The `k`-byte field at an offset of a payload. -/
def fieldAt (p : List Byte) (i k : Nat) : Nat := beValue ((p.drop i).take k)

/-- The byte at an offset as an identifier below `n`, absent where it is out of range. -/
def idAt (n : Nat) (p : List Byte) (i : Nat) : Option (Fin n) :=
  if h : byteAt p i < n then some ⟨byteAt p i, h⟩ else none

/-- One byte. -/
def byte (n : Nat) : Byte := BitVec.ofNat 8 n

/-- A presence byte and the six bytes of an instant, zero where it is absent (R188). -/
def optInstant : Option Nat → List Byte
  | some t => 0x01 :: beBytes 6 t
  | none => 0x00 :: beBytes 6 0

/-- A one-byte field, FFh where it is absent (R188). -/
def optByte : Option Nat → Byte
  | some n => byte n
  | none => 0xFF

/-- A signed 48-bit value in two's complement (R188), open outside its range (log entry 6). -/
def stepField (step : Int) : List Byte :=
  if -140737488355328 ≤ step ∧ step ≤ 140737488355327 then beBytes 6 (BitVec.ofInt 48 step).toNat
  else beBytes 6 (Config.stepBeyond step).toNat

/-- A wall time as a 48-bit unsigned value (R3, R114), open outside its range (log entry 7). -/
def wallValue (wall : Int) : Nat :=
  if 0 ≤ wall ∧ wall ≤ 281474976710655 then wall.toNat else (Config.wallBeyond wall).toNat

/-! ### Codes of enumerated fields (Table 11-4) -/

def levelCode : Level → Byte
  | .low => 0x00
  | .high => 0x01

def levelOfCode : Nat → Option Level
  | 0 => some .low
  | 1 => some .high
  | _ => none

def Shadow.code : Shadow → Byte
  | .rest => 0x00
  | .active => 0x01

def Shadow.ofCode : Nat → Option Shadow
  | 0 => some .rest
  | 1 => some .active
  | _ => none

/-- The timer state code; FREE (00h) is the absence of a record. -/
def timerStateCode : Option TimerState → Byte
  | none => 0x00
  | some .idle => 0x01
  | some .running => 0x02
  | some .paused => 0x03

def TimerKind.code : TimerKind → Byte
  | .relative => 0x00
  | .absolute _ => 0x01

def TimerMode.code : TimerMode → Byte
  | .once => 0x00
  | .repeating => 0x01

def TimerMode.ofCode : Nat → Option TimerMode
  | 0 => some .once
  | 1 => some .repeating
  | _ => none

def Scale.code : Scale → Byte
  | .ms1 => 0x00
  | .ms10 => 0x01
  | .ms100 => 0x02
  | .s1 => 0x03

def Scale.ofCode : Nat → Option Scale
  | 0 => some .ms1
  | 1 => some .ms10
  | 2 => some .ms100
  | 3 => some .s1
  | _ => none

/-- The unit of a scale in milliseconds (R19). -/
def Scale.ms : Scale → Nat
  | .ms1 => 1
  | .ms10 => 10
  | .ms100 => 100
  | .s1 => 1000

def TimerSource.code : TimerSource → Byte
  | .time _ => 0x00
  | .parent _ => 0x01
  | .input _ _ => 0x02

def Edge.code : Edge → Byte
  | .rise => 0x00
  | .fall => 0x01
  | .both => 0x02

def Edge.ofCode : Nat → Option Edge
  | 0 => some .rise
  | 1 => some .fall
  | 2 => some .both
  | _ => none

/-- Whether an edge to `level` qualifies: RISE to HIGH, FALL to LOW, BOTH always (R61, R145). -/
def Edge.qualifies : Edge → Level → Bool
  | .rise, .high => true
  | .fall, .low => true
  | .both, _ => true
  | _, _ => false

def Effect.code : Effect → Byte
  | .set => 0x00
  | .clear => 0x01
  | .toggle => 0x02
  | .pulse _ => 0x03

/-- The pulse width field of an output action, 0000h where the effect is not PULSE (Table 11-8). -/
def Effect.widthField : Effect → Nat
  | .pulse w => w
  | _ => 0

/-- The watch state code; FREE (00h) is the absence of a record. -/
def watchStateCode : Option WatchState → Byte
  | none => 0x00
  | some .dormant => 0x01
  | some .running => 0x02
  | some .warn => 0x03
  | some .tripped => 0x04
  | some .releasing => 0x05

def Phase.code : Phase → Byte
  | .opened => 0x00
  | .half => 0x01

def TriggerAct.code : TriggerAct → Byte
  | .start => 0x00
  | .stop => 0x01

def TriggerAct.ofCode : Nat → Option TriggerAct
  | 0 => some .start
  | 1 => some .stop
  | _ => none

def Cause.code : Cause → Byte
  | .expired => 0x00
  | .early => 0x01
  | .retrip => 0x02
  | .outOfStep => 0x03

def NoticeClass.code : NoticeClass → Byte
  | .routine => 0x00
  | .alert => 0x01
  | .alarm => 0x02

def ResetCause.code : ResetCause → Byte
  | .powerOn => 0x00
  | .pin => 0x01
  | .restart => 0x02

/-- The owner kind and index bytes of a SCHEDULE_QUERY entry. -/
def Owner.code : Owner → List Byte
  | .timer t => [0x00, byte t]
  | .watch w => [0x01, byte w]
  | .pulse n => [0x02, byte n]
  | .rstoPulse => [0x03, 0x00]
  | .resend => [0x04, 0x00]

def boolCode (b : Bool) : Byte := if b then 0x01 else 0x00

/-- Role, role watch or timer, edge and act, FFh where the role does not use them (R192, Table 11-10). -/
def Role.fields : Role → List Byte
  | .none => [0x00, 0xFF, 0xFF, 0xFF]
  | .checkin w => [0x01, byte w, 0xFF, 0xFF]
  | .trigger t e a => [0x02, byte t, e.code, a.code]
  | .count t => [0x03, byte t, 0xFF, 0xFF]

/-! ### Status codes (Table 11-3) -/

/-- The outcome of a request (Table 10-1). -/
inductive Status where
  | ok
  | adjusted
  | unknownRequest
  | badLength
  | badArg
  | noSuch
  | inUse
  | lineBound
  | locked
  | wrongSource
  | wrongState
  | outOfStep
  | early
  | notRecovered
  | staleAck
  | chainLoop
  | chainDepth
deriving DecidableEq, Repr

def Status.code : Status → Byte
  | .ok => 0x00
  | .adjusted => 0x01
  | .unknownRequest => 0x10
  | .badLength => 0x11
  | .badArg => 0x12
  | .noSuch => 0x13
  | .inUse => 0x14
  | .lineBound => 0x15
  | .locked => 0x16
  | .wrongSource => 0x17
  | .wrongState => 0x18
  | .outOfStep => 0x19
  | .early => 0x1A
  | .notRecovered => 0x1B
  | .staleAck => 0x1C
  | .chainLoop => 0x1D
  | .chainDepth => 0x1E

/-! ### Request kinds (Table 11-2) -/

inductive Request where
  | identify
  | linkQuery
  | restart
  | timeSet
  | timeGet
  | scheduleQuery
  | timerDefine
  | timerStart
  | timerStop
  | timerPause
  | timerResume
  | timerFree
  | timerQuery
  | watchDefine
  | watchStart
  | checkPrep
  | checkConf
  | watchRetune
  | watchRetire
  | watchRelease
  | watchQuery
  | lineConfig
  | lineSet
  | lineHold
  | lineUnhold
  | lineQuery
  | inputConfig
  | inputQuery
  | noticeAck
  | faultQuery
  | faultClear
deriving DecidableEq, Repr

def Request.code : Request → Byte
  | .identify => 0x01
  | .linkQuery => 0x02
  | .restart => 0x03
  | .timeSet => 0x08
  | .timeGet => 0x09
  | .scheduleQuery => 0x0A
  | .timerDefine => 0x10
  | .timerStart => 0x11
  | .timerStop => 0x12
  | .timerPause => 0x13
  | .timerResume => 0x14
  | .timerFree => 0x15
  | .timerQuery => 0x16
  | .watchDefine => 0x20
  | .watchStart => 0x21
  | .checkPrep => 0x22
  | .checkConf => 0x23
  | .watchRetune => 0x24
  | .watchRetire => 0x25
  | .watchRelease => 0x26
  | .watchQuery => 0x27
  | .lineConfig => 0x30
  | .lineSet => 0x31
  | .lineHold => 0x32
  | .lineUnhold => 0x33
  | .lineQuery => 0x34
  | .inputConfig => 0x38
  | .inputQuery => 0x39
  | .noticeAck => 0x40
  | .faultQuery => 0x48
  | .faultClear => 0x49

/-- Every request, in the order of Table 11-2. -/
def Request.all : List Request :=
  [.identify, .linkQuery, .restart, .timeSet, .timeGet, .scheduleQuery, .timerDefine, .timerStart, .timerStop,
   .timerPause, .timerResume, .timerFree, .timerQuery, .watchDefine, .watchStart, .checkPrep, .checkConf,
   .watchRetune, .watchRetire, .watchRelease, .watchQuery, .lineConfig, .lineSet, .lineHold, .lineUnhold,
   .lineQuery, .inputConfig, .inputQuery, .noticeAck, .faultQuery, .faultClear]

/-- The request a kind code names, if it names one (R178, R189). -/
def Request.ofCode (kind : Byte) : Option Request := Request.all.find? (fun r => r.code == kind)

/-- What taking a request leaves: the device, and the payload of the reply. -/
abbrev Taken := Device × List Byte

/-- A refusal by a request whose kind echoes its first payload byte (R190): the status and that byte, if there is one. -/
def refuseEcho (st : Status) (p : List Byte) (d : Device) : Taken := (d, st.code :: p.take 1)

/-- A refusal by a request whose kind echoes nothing (R190). -/
def refusePlain (st : Status) (d : Device) : Taken := (d, [st.code])

end Sys2Proof.Machine
end

