-- ==== Sys2Proof/Machine/Flags.lean ====
section
/-! DEFINITION. Counters that stop or wrap, and the levels and conditions that other state gives at every instant:
wall time, the driven level of a line, RSTO, FAULT, the lock of a line. -/

namespace Sys2Proof.Machine

/-- A 16-bit counter increased by `k`, stopping at 65535 (00_scope.md, Counters). -/
def addStop16 (n k : Nat) : Nat := min (n + k) Config.maxCount16

/-- A 16-bit counter increased by 1, wrapping from 65535 to 0 (R115, R139). -/
def incWrap16 (n : Nat) : Nat := (n + 1) % 65536

/-- A 32-bit counter increased by 1, wrapping (R45). -/
def incWrap32 (n : Nat) : Nat := (n + 1) % 4294967296

/-- A due instant, recorded as 2^48 - 1 where it lies beyond (R1). -/
def clipDue (due : Int) : Int := min due Config.maxElapsed

/-- Wall time: elapsed time plus the wall offset (R2). -/
def Device.wall (d : Device) : Int := d.elapsed + d.wallOffset

/-- TRIPPED or RELEASING: the states in which a watch is a holder (R92) and asserts FAULT (R93). -/
def WatchState.holds : WatchState → Bool
  | .tripped => true
  | .releasing => true
  | _ => false

/-- The active states (R64). -/
def WatchState.active : WatchState → Bool
  | .dormant => false
  | _ => true

/-- Whether line n stands in a set of output lines: bit n of the set (R188). -/
def inSet (set : BitVec 8) (n : Fin 8) : Bool := set.getLsbD n

/-- The set of the output lines with a property (R188). -/
def setOf (p : Fin 8 → Bool) : BitVec 8 :=
  (List.finRange 8).foldl (fun acc n => if p n then acc ||| (1#8 <<< n.val) else acc) 0

/-- The mark of watch w in a set of watches (R188). -/
def watchBit (w : Fin 16) : BitVec 16 := 1#16 <<< w.val

/-- The set of the watches with a property (R188). -/
def watchSetOf (p : Fin 16 → Bool) : BitVec 16 :=
  (List.finRange 16).foldl (fun acc w => if p w then acc ||| watchBit w else acc) 0

/-- The holder set is non-empty (R121). -/
def LineRec.heldSafe (l : LineRec) : Bool := l.watchHolders != 0 || l.hostHolder

/-- The shadow level: the rest level, or the active level opposite to it (R120, R121). -/
def LineRec.shadowLevel (l : LineRec) : Level :=
  match l.shadow with
  | .rest => l.restLevel
  | .active => l.restLevel.opposite

/-- The driven level: the safe level while the holder set is non-empty, the shadow level otherwise (R121). -/
def LineRec.driven (l : LineRec) : Level := if l.heldSafe then l.safeLevel else l.shadowLevel

/-- The device is in a reset (R138). -/
def Device.inReset (d : Device) : Bool :=
  match d.mode with
  | .running => false
  | .held _ => true

/-- The level on the pin of OUTn: LOW through every reset (R138), the driven level otherwise (R121). -/
def Device.outPin (d : Device) (n : Fin 8) : Level := if d.inReset then .low else d.lines[n].driven

/-- The entry of an owner, if it has one (R8: at most one). -/
def Device.entryOf (d : Device) (o : Owner) : Option Entry := d.deadlines.find? (fun e => e.owner == o)

/-- The due instant of an owner's entry as it is reported (R16, R31, R41, R84). -/
def Device.dueOf (d : Device) (o : Owner) : Option Nat := (d.entryOf o).map (fun e => e.due.toNat)

/-- RSTO: LOW while an RSTO pulse is in flight, HIGH otherwise (R136) and through every reset (R138). -/
def Device.rsto (d : Device) : Level :=
  if d.inReset then .high else if (d.entryOf .rstoPulse).isSome then .low else .high

/-- A watch is TRIPPED or RELEASING (R93). -/
def Device.watchHolds (d : Device) (w : Fin 16) : Bool :=
  match d.watches[w] with
  | some r => r.state.holds
  | none => false

/-- FAULT: HIGH while at least one watch is TRIPPED or RELEASING (R93, R137), LOW otherwise and through every reset
(R138). -/
def Device.faultPin (d : Device) : Level :=
  if d.inReset then .low else if (List.finRange 16).any d.watchHolds then .high else .low

/-- Watch w is in an active state with line n in its hold set (R131, R135). -/
def Device.watchLocks (d : Device) (n : Fin 8) (w : Fin 16) : Bool :=
  match d.watches[w] with
  | some r => r.state.active && inSet r.holdSet n
  | none => false

/-- The locking watches of a line (R135). -/
def Device.locking (d : Device) (n : Fin 8) : BitVec 16 := watchSetOf (d.watchLocks n)

/-- A line is LOCKED against LINE_CONFIG (R131). -/
def Device.lineLocked (d : Device) (n : Fin 8) : Bool := (List.finRange 16).any (d.watchLocks n)

end Sys2Proof.Machine
end

