-- ==== Sys2Proof/Machine/Ops.lean ====
section
/-! DEFINITION. The named operations over the blocks that serve the timers and the watches: the deadline list and the
engine's hand-over bookkeeping (Section 1), the output unit (Section 7), the notice queue (Section 9), the fault record
(Section 6) and the timer and watch tables' own reads and writes. -/

namespace Sys2Proof.Machine

/-! ### Deadline list (R7 to R10) -/

/-- The order of the list: by due instant, and by insertion among equal due instants (R8). -/
def Entry.before (e f : Entry) : Bool := e.due < f.due || (e.due == f.due && e.pos < f.pos)

/-- Places an entry before every entry that stands after it by the order of R8. -/
def placeEntry (e : Entry) : List Entry → List Entry
  | [] => [e]
  | f :: rest => if e.before f then e :: f :: rest else f :: placeEntry e rest

/-- The list without an owner's entry (R10). -/
def removeOwner (o : Owner) (l : List Entry) : List Entry := l.filter (fun e => e.owner != o)

/-- An insertion position after that of every present entry (R7). -/
def freshPos (l : List Entry) : Nat := l.foldr (fun e m => max (e.pos + 1) m) 1

/-- An owner's removal (R10). -/
def Device.removeEntry (o : Owner) (d : Device) : Device := { d with deadlines := removeOwner o d.deadlines }

/-- The entry that an insertion makes in the list `l` (R9): a due instant beyond the end of elapsed time is recorded as
that end (R1); for an owner already handed over at this instant, one at or before now is recorded as now + 1 (R14; log
entry 30); otherwise an absolute timer's entry at or before now is past due (R13), at the end of elapsed time every one
(log entry 28). -/
def Device.newEntry (d : Device) (l : List Entry) (o : Owner) (due : Int) (wall : Option Nat) : Entry :=
  let due := clipDue due
  if due ≤ d.elapsed ∧ o ∈ d.handed then
    { owner := o, due := clipDue (d.elapsed + 1), wall := wall, pos := freshPos l, pastDue := false }
  else
    { owner := o, due := due, wall := wall, pos := freshPos l, pastDue := wall.isSome && decide (due ≤ d.elapsed) }

/-- An owner's insertion: its earlier entry leaves, and the new one stands behind every entry of an earlier or equal due
instant (R9). `wall` is the due wall time of an absolute timer's entry. -/
def Device.insertEntry (o : Owner) (due : Int) (wall : Option Nat) (d : Device) : Device :=
  let l := removeOwner o d.deadlines
  { d with deadlines := placeEntry (d.newEntry l o due wall) l }

/-- The head entry, when elapsed time has reached its due instant (R11) and its owner has not been handed over at this
instant (R14). A due head whose owner has been, which only the end of elapsed time brings about, is not passed over: the
entries behind it wait (DESIGN CHOICE, log entry 28). -/
def Device.headDue (d : Device) : Option Entry :=
  match d.deadlines with
  | [] => none
  | e :: _ => if e.due ≤ d.elapsed ∧ e.owner ∉ d.handed then some e else none

/-- The engine takes an owner's entry off the list to hand it over (R11), and keeps that it has (R14). -/
def Device.takeOwner (o : Owner) (d : Device) : Device :=
  { d with deadlines := removeOwner o d.deadlines, handed := o :: d.handed }

/-! ### Timer and watch tables -/

def Device.setTimer (t : Fin 24) (r : Option TimerRec) (d : Device) : Device := { d with timers := d.timers.set t r }

def Device.setWatch (w : Fin 16) (r : Option WatchRec) (d : Device) : Device := { d with watches := d.watches.set w r }

def Device.setLine (n : Fin 8) (r : LineRec) (d : Device) : Device := { d with lines := d.lines.set n r }

def Device.setInput (n : Fin 8) (r : InputRec) (d : Device) : Device := { d with inputs := d.inputs.set n r }

/-- A change of the role of an input line alone (R143). -/
def Device.setRole (n : Fin 8) (role : Role) (d : Device) : Device :=
  d.setInput n { d.inputs[n] with role := role }

/-! ### Output unit (R121 to R128) -/

/-- The shadow of a line becomes `sh` (R124). -/
def Device.setShadow (n : Fin 8) (sh : Shadow) (d : Device) : Device :=
  d.setLine n { d.lines[n] with shadow := sh }

/-- A pulse on a line is started or restarted: the shadow is ACTIVE and the PULSE entry stands at now + width (R53,
R125). -/
def Device.startPulse (n : Fin 8) (width : Nat) (d : Device) : Device :=
  (d.setLine n { d.lines[n] with
      shadow := .active
      pulseEnd := some (min (d.elapsed + width) Config.maxElapsed) }).insertEntry
    (.pulse n) (d.elapsed + width) none

/-- A pulse in flight is cancelled without its pulse-end work and the shadow returns to rest (R34, R128). -/
def Device.restLine (n : Fin 8) (d : Device) : Device :=
  (d.setLine n { d.lines[n] with shadow := .rest, pulseEnd := none }).removeEntry (.pulse n)

/-- A binding is released: the shadow to rest, a pulse cancelled, the line unbound (R29, R123). -/
def Device.releaseBinding (n : Fin 8) (d : Device) : Device :=
  let d := d.restLine n
  d.setLine n { d.lines[n] with binding := none }

/-- An output effect reaches the shadow of its line (R52). -/
def Device.applyEffect (n : Fin 8) (eff : Effect) (d : Device) : Device :=
  match eff with
  | .set => d.setShadow n .active
  | .clear => d.setShadow n .rest
  | .toggle =>
    match d.lines[n].shadow with
    | .rest => d.setShadow n .active
    | .active => d.setShadow n .rest
  | .pulse width => d.startPulse n width

/-- A watch becomes a holder of each line of its hold set (R92, R122). -/
def Device.addHolds (w : Fin 16) (set : BitVec 8) (d : Device) : Device :=
  { d with lines := Vector.ofFn (fun n : Fin 8 =>
      if inSet set n then { d.lines[n] with watchHolders := d.lines[n].watchHolders ||| watchBit w }
      else d.lines[n]) }

/-- A watch stops being a holder of each line of its hold set (R100, R122). -/
def Device.dropHolds (w : Fin 16) (set : BitVec 8) (d : Device) : Device :=
  { d with lines := Vector.ofFn (fun n : Fin 8 =>
      if inSet set n then { d.lines[n] with watchHolders := d.lines[n].watchHolders &&& ~~~ watchBit w }
      else d.lines[n]) }

/-- HOST becomes, or stops being, a holder of each line named (R133, R134). -/
def Device.setHostHold (held : Bool) (set : BitVec 8) (d : Device) : Device :=
  { d with lines := Vector.ofFn (fun n : Fin 8 =>
      if inSet set n then { d.lines[n] with hostHolder := held } else d.lines[n]) }

/-- An RSTO pulse is started, of the width in force (R108). -/
def Device.startRsto (d : Device) : Device := d.insertEntry .rstoPulse (d.elapsed + d.linkWatch.rstoWidth) none

/-! ### Notice queue (R153 to R157) -/

/-- The class of a notice, fixed by its kind (R153). -/
def NoticeBody.cls : NoticeBody → NoticeClass
  | .started _ _ => .alert
  | .timerFired _ _ _ _ _ => .routine
  | .watchWarn _ _ => .alert
  | .watchRecovered _ => .routine
  | .watchTripped _ _ => .alarm
  | .releaseDone _ => .routine
  | .releaseAborted _ _ => .alert
  | .linkLockout _ => .alarm

def Notice.isSent (n : Notice) : Bool :=
  match n.state with
  | .unsent => false
  | .sent _ _ => true

def Notice.isMarked (n : Notice) : Bool :=
  match n.state with
  | .unsent => false
  | .sent _ mark => mark

def Notice.hasSeq (s : Nat) (n : Notice) : Bool :=
  match n.state with
  | .unsent => false
  | .sent seq _ => seq == s

/-- UNSENT and of the class named: what R156 may displace. -/
def Notice.unsentOf (c : NoticeClass) (n : Notice) : Bool := !n.isSent && n.body.cls == c

/-- Removes the last element with a property, with that element. -/
def removeLast {α : Type} (p : α → Bool) : List α → Option (α × List α)
  | [] => none
  | x :: xs =>
    match removeLast p xs with
    | some (y, ys) => some (y, x :: ys)
    | none => if p x then some (x, xs) else none

/-- Changes the first element with a property, with the element as changed. -/
def updateFirst {α : Type} (p : α → Bool) (f : α → α) : List α → Option (α × List α)
  | [] => none
  | x :: xs =>
    if p x then some (f x, f x :: xs)
    else
      match updateFirst p f xs with
      | some (y, ys) => some (y, x :: ys)
      | none => none

/-- The notice that a newcomer of a class displaces from a full queue, with the rest of the queue (R156). -/
def displaced (c : NoticeClass) (q : List Notice) : Option (Notice × List Notice) :=
  match c with
  | .routine => none
  | .alert => removeLast (Notice.unsentOf .routine) q
  | .alarm =>
    match removeLast (Notice.unsentOf .routine) q with
    | some r => some r
    | none => removeLast (Notice.unsentOf .alert) q

/-- Appends a newcomer at the end of a queue with room; it takes the pending loss (R155). -/
def NoticeQueue.push (q : NoticeQueue) (body : NoticeBody) (instant : Nat) : NoticeQueue :=
  { q with
    queue := q.queue ++
      [{ body := body, instant := instant, lostBefore := q.pendingLoss, state := .unsent, attempts := 0 }]
    pendingLoss := 0 }

/-- Appends a notice: with room, by R155; to a full queue, by displacing or dropping as R156 states. -/
def NoticeQueue.append (q : NoticeQueue) (body : NoticeBody) (instant : Nat) : NoticeQueue :=
  if q.queue.length < Config.noticeCapacity then q.push body instant
  else
    match displaced body.cls q.queue with
    | some (gone, rest) =>
      NoticeQueue.push
        { q with queue := rest, pendingLoss := addStop16 q.pendingLoss (1 + gone.lostBefore) } body instant
    | none => { q with pendingLoss := addStop16 q.pendingLoss 1 }

/-- An event appends a notice at its now (R155). -/
def Device.notify (body : NoticeBody) (d : Device) : Device :=
  { d with notices := d.notices.append body d.elapsed }

/-! ### Fault record (R114) -/

/-- Appends a trip entry; of four entries the oldest is removed first (R114). -/
def appendTrip (e : TripEntry) (l : List TripEntry) : List TripEntry :=
  if l.length < Config.tripCapacity then l ++ [e] else l.drop 1 ++ [e]

/-- A trip adds its entry to the fault record (R91, R114). -/
def Device.recordTrip (w : Fin 16) (cause : Cause) (d : Device) : Device :=
  { d with fault :=
      { d.fault with
        entries := appendTrip
          { watch := w, cause := cause, wall := wallValue d.wall, elapsed := d.elapsed,
            generation := d.fault.generation }
          d.fault.entries } }

end Sys2Proof.Machine
end

