-- ==== Sys2Proof/Machine/Faults.lean ====
section
/-! DEFINITION. The requests on the fault record (R117, R118). -/

namespace Sys2Proof.Machine

/-- Elapsed at trip in 5 bytes; a larger value is sent as the largest (R188). -/
def elapsedField (n : Nat) : List Byte := beBytes 5 (min n 1099511627775)

/-- The age of an entry: the reply's generation minus the entry's, modulo 65536; above 254 it is sent as 255 (R188). -/
def generationAge (now entry : Nat) : Nat := min ((now + 65536 - entry) % 65536) 255

/-- An entry of a FAULT_QUERY reply (Table 11-11). -/
def TripEntry.fields (gen : Nat) (e : TripEntry) : List Byte :=
  [byte (e.watch * 16 + e.cause.code.toNat), byte (generationAge gen e.generation)] ++ beBytes 6 e.wall ++
    elapsedField e.elapsed

/-- FAULT_QUERY (R117, Table 11-11). -/
def takeFaultQuery (p : List Byte) (d : Device) : Taken :=
  if p.length ≠ 0 then refusePlain .badLength d
  else
    (d, [Status.ok.code, byte (d.fault.lastCause.code.toNat * 16 + d.fault.entries.length)] ++
      beBytes 2 d.fault.generation ++ d.fault.entries.flatMap (TripEntry.fields d.fault.generation))

/-- FAULT_CLEAR (R118). -/
def takeFaultClear (p : List Byte) (d : Device) : Taken :=
  if p.length ≠ 0 then refusePlain .badLength d
  else
    ({ d with fault := { d.fault with entries := [] } },
      [Status.ok.code, byte d.fault.entries.length])

end Sys2Proof.Machine
end

