-- ==== Sys2Proof/Machine/Expiry.lean ====
section
/-! DEFINITION. Timer expiry: its stages, triggers, chains and the past-due hand-over (Section 3, R13, R14). -/

namespace Sys2Proof.Machine

/-- One interval of a TIME timer, in milliseconds: period × scale (R21). A counted timer has none. -/
def TimerRec.interval (r : TimerRec) : Nat :=
  match r.source with
  | .time sc => r.period * sc.ms
  | .parent _ => 0
  | .input _ _ => 0

/-- The timer is a child of timer t (R22). -/
def TimerRec.childOf (r : TimerRec) (t : Fin 24) : Bool := r.source == .parent t

/-- Inserts the entry of a timer that starts or restarts now: a RELATIVE TIME timer one interval on, an ABSOLUTE timer
at its due wall time, a counted timer none (R31, R32, R56). -/
def Device.scheduleStart (t : Fin 24) (r : TimerRec) (d : Device) : Device :=
  match r.kind, r.source with
  | .absolute due, _ => d.insertEntry (.timer t) (due - d.wallOffset) (some due)
  | .relative, .time _ => d.insertEntry (.timer t) (d.elapsed + r.interval) none
  | .relative, .parent _ => d
  | .relative, .input _ _ => d

/-- A timer starts, or a RUNNING one is restarted: RUNNING, remaining the period, its entry placed (R31, R55, R56). -/
def Device.beginTimer (t : Fin 24) (r : TimerRec) (d : Device) : Device :=
  (d.setTimer t (some { r with state := .running, remaining := r.period })).scheduleStart t r

/-- A trigger acts on a timer by its state: ignored by FREE and PAUSED, a start of an IDLE one, a restart of a RUNNING
one (R55). -/
def Device.triggerTimer (t : Fin 24) (d : Device) : Device :=
  match d.timers[t] with
  | none => d
  | some r =>
    match r.state with
    | .paused => d
    | .idle => d.beginTimer t r
    | .running => d.beginTimer t r

/-- A RUNNING or PAUSED timer stops: its entry leaves, it is IDLE with remaining the period, its bound line returns to
rest and a pulse on it is cancelled (R34). -/
def Device.stopTimer (t : Fin 24) (r : TimerRec) (d : Device) : Device :=
  let d := (d.removeEntry (.timer t)).setTimer t (some { r with state := .idle, remaining := r.period })
  match r.output with
  | some a => d.restLine a.line
  | none => d

/-- An expiry of an ABSOLUTE timer is late when it carries the past-due mark or wall time has passed its due wall time
(R46). -/
def Device.isLate (d : Device) (r : TimerRec) (pastDue : Bool) : Bool :=
  match r.kind with
  | .relative => false
  | .absolute due => pastDue || decide ((due : Int) < d.wall)

/-- The number of intervals to the first grid point after wall time `w`: the smallest k of at least 1 with due + k ×
interval later than w (R50). -/
def gridSteps (due : Nat) (interval : Nat) (w : Int) : Nat := (w - due).toNat / interval + 1

/-- The missed count of an expiry: k - 1 for a REPEAT ABSOLUTE timer (R50), 0 for every other (R47, R54). -/
def Device.missedCount (d : Device) (r : TimerRec) : Nat :=
  match r.mode, r.kind with
  | .repeating, .absolute due => gridSteps due r.interval d.wall - 1
  | .repeating, .relative => 0
  | .once, _ => 0

/-- The counting stage (R45). -/
def TimerRec.counted (r : TimerRec) (late : Bool) : TimerRec :=
  { r with fires := incWrap32 r.fires, lateCount := if late then addStop16 r.lateCount 1 else r.lateCount }

/-- The timer goes IDLE at its own expiry (R47). -/
def Device.finishTimer (t : Fin 24) (r : TimerRec) (d : Device) : Device :=
  d.setTimer t (some { r with state := .idle, remaining := r.period })

/-- The continuation stage (R47 to R51), given the due instant of the entry handed over. -/
def Device.continueTimer (t : Fin 24) (r : TimerRec) (due : Int) (d : Device) : Device :=
  match r.mode with
  | .once => d.finishTimer t r
  | .repeating =>
    match r.kind, r.source with
    | .absolute old, _ =>
      let next := old + gridSteps old r.interval d.wall * r.interval
      if Config.maxDueWall < next then d.finishTimer t r
      else (d.setTimer t (some { r with kind := .absolute next })).insertEntry
        (.timer t) (next - d.wallOffset) (some next)
    | .relative, .time _ => (d.setTimer t (some r)).insertEntry (.timer t) (due + r.interval) none
    | .relative, .parent _ => d.setTimer t (some { r with remaining := r.period })
    | .relative, .input _ _ => d.setTimer t (some { r with remaining := r.period })

/-- The output stage (R52). -/
def Device.outputStage (r : TimerRec) (d : Device) : Device :=
  match r.output with
  | some a => d.applyEffect a.line a.effect
  | none => d

/-- The notice stage: fires is the count after the expiry's own increase (R54). -/
def Device.noticeStage (t : Fin 24) (r : TimerRec) (late : Bool) (missed : Nat) (d : Device) : Device :=
  match r.notice with
  | some tag => d.notify (.timerFired t tag r.fires late (min missed Config.maxCount16))
  | none => d

/-- The trigger stage (R55). -/
def Device.triggerStage (r : TimerRec) (d : Device) : Device :=
  match r.trigger with
  | some target => d.triggerTimer target
  | none => d

/-- Stages 1 to 5 of an expiry (R44), of the timer with record `r`. -/
def Device.expiryStages (t : Fin 24) (r : TimerRec) (due : Int) (pastDue : Bool) (d : Device) : Device :=
  let late := d.isLate r pastDue
  let missed := d.missedCount r
  let r := r.counted late
  ((((d.continueTimer t r due).outputStage r).noticeStage t r late missed).triggerStage r)

/-- A RUNNING counted timer takes one count; `expire` runs its expiry where remaining reaches 0 (R59, R61). -/
def Device.takeCount (expire : Device → Device) (c : Fin 24) (r : TimerRec) (d : Device) : Device :=
  let d := d.setTimer c (some { r with remaining := r.remaining - 1 })
  if r.remaining - 1 = 0 then expire d else d

/-- A child is offered one count of its parent's expiry (R59). -/
def Device.offerCount (expire : Device → Device) (parent c : Fin 24) (d : Device) : Device :=
  match d.timers[c] with
  | none => d
  | some r => if r.childOf parent ∧ r.state = .running then d.takeCount expire c r else d

/-- An expiry, whole (R43, R44): stages 1 to 5, then one count to each RUNNING child in ascending order of id, each child
that reaches 0 expiring before the next is counted (R60). `fuel` bounds the nesting, which parent links bound by the
number of timers (R22). -/
def expire : Nat → Fin 24 → Int → Bool → Device → Device
  | 0, _, _, _, d => d
  | fuel + 1, t, due, pastDue, d =>
    match d.timers[t] with
    | none => d
    | some r =>
      (List.finRange 24).foldl
        (fun acc c => acc.offerCount (fun d => expire fuel c d.elapsed false d) t c)
        (d.expiryStages t r due pastDue)

/-- An expiry of timer t (R44); nesting no deeper than the number of timers. -/
def Device.expireTimer (t : Fin 24) (due : Int) (pastDue : Bool) (d : Device) : Device := expire 24 t due pastDue d

/-- The past-due hand-overs of an event, from the first past-due entry on, one at a time (R13). Each timer is handed
over at most once in an instant (R14), so `fuel` need not exceed their number. Two that trigger each other are so both
handed over at every instant (DESIGN CHOICE, log entry 30). -/
def drain : Nat → Device → Device
  | 0, d => d
  | fuel + 1, d =>
    match d.deadlines.find? (fun e => e.pastDue) with
    | none => d
    | some e =>
      match e.owner with
      | .timer t => drain fuel ((d.takeOwner e.owner).expireTimer t e.due true)
      | .watch _ => d
      | .pulse _ => d
      | .rstoPulse => d
      | .resend => d

/-- Every past-due hand-over of an event (R13). -/
def Device.drainPastDue (d : Device) : Device := drain 24 d

end Sys2Proof.Machine
end

