-- ==== Sys2Proof/Machine/Timers.lean ====
section
/-! DEFINITION. The requests on timers as the dispatcher takes them (Section 2). Each gives the device afterwards and the
reply's payload. -/

namespace Sys2Proof.Machine

/-- The milliseconds left before a due instant in whole units of the scale, rounded up and at least 1 (R37). -/
def unitsLeft (sc : Scale) (due : Int) (now : Nat) : Nat := max 1 (((due - now).toNat + (sc.ms - 1)) / sc.ms)

/-- The units a RUNNING TIME timer has left before its entry's due instant (R37, R41). -/
def Device.timerUnitsLeft (t : Fin 24) (sc : Scale) (d : Device) : Nat :=
  match d.entryOf (.timer t) with
  | some e => unitsLeft sc e.due d.elapsed
  | none => 1

/-- Reply fields of TIMER_START and TIMER_RESUME: id, state, presence and due instant (R31, R39). -/
def timerReply (t : Fin 24) (d : Device) : List Byte :=
  [byte t, timerStateCode (d.timers[t].map TimerRec.state)] ++ optInstant (d.dueOf (.timer t))

/-- Reply fields of TIMER_STOP and TIMER_FREE: id and state (R34, R40). -/
def timerShortReply (t : Fin 24) (d : Device) : List Byte :=
  [byte t, timerStateCode (d.timers[t].map TimerRec.state)]

/-! ### TIMER_DEFINE (R24 to R30) -/

/-- Whether an optional part of TIMER_DEFINE is marked present (Table 11-7): 0 scale, 1 due wall, 2 output action, 3
notice action, 4 trigger action. -/
def partMarked (p : List Byte) (bit : Nat) : Bool := (byteAt p 3).testBit bit

/-- The size of an optional part marked present (Table 11-7). -/
def partSize (p : List Byte) (bit size : Nat) : Nat := if partMarked p bit then size else 0

def dueWallOffset (p : List Byte) : Nat := 9 + partSize p 0 1

def outputOffset (p : List Byte) : Nat := dueWallOffset p + partSize p 1 6

def noticeOffset (p : List Byte) : Nat := outputOffset p + partSize p 2 4

def triggerOffset (p : List Byte) : Nat := noticeOffset p + partSize p 3 1

/-- The payload length that the flags call for (R191). -/
def timerDefineLength (p : List Byte) : Nat := triggerOffset p + partSize p 4 1

/-- The source of a definition with the scale flag that goes with it (R24); the bytes a source does not use are not
checked (R188). -/
def parseTimerSource (t : Fin 24) (p : List Byte) : Option TimerSource :=
  match byteAt p 6 with
  | 0 => if partMarked p 0 then (Scale.ofCode (byteAt p 9)).map TimerSource.time else none
  | 1 =>
    if partMarked p 0 then none
    else (idAt 24 p 7).bind (fun parent => if parent = t then none else some (.parent parent))
  | 2 =>
    if partMarked p 0 then none
    else (idAt 8 p 7).bind (fun n => (Edge.ofCode (byteAt p 8)).map (TimerSource.input n))
  | _ => none

/-- The kind of a definition with the due wall flag that goes with it; ABSOLUTE goes with a TIME source alone (R24). -/
def parseTimerKind (source : TimerSource) (p : List Byte) : Option TimerKind :=
  match byteAt p 1, source with
  | 0, _ => if partMarked p 1 then none else some .relative
  | 1, .time _ =>
    if partMarked p 1 ∧ fieldAt p (dueWallOffset p) 6 ≤ Config.maxDueWall
    then some (.absolute (fieldAt p (dueWallOffset p) 6)) else none
  | _, _ => none

/-- The effect of an output action at offset `i` (its effect and width bytes); a PULSE has a width of at least 1 (R24). -/
def parseEffect (p : List Byte) (i : Nat) : Option Effect :=
  match byteAt p i with
  | 0 => some .set
  | 1 => some .clear
  | 2 => some .toggle
  | 3 => if fieldAt p (i + 1) 2 = 0 then none else some (.pulse (fieldAt p (i + 1) 2))
  | _ => none

/-- The output action, absent where it is not marked; the outer `none` is a value out of range (R24). -/
def parseOutput (p : List Byte) : Option (Option OutputAction) :=
  if partMarked p 2 then
    (idAt 8 p (outputOffset p)).bind (fun line =>
      (parseEffect p (outputOffset p + 1)).map (fun eff => some { line := line, effect := eff }))
  else some none

/-- The tag of the notice action, absent where it is not marked. -/
def parseNoticeTag (p : List Byte) : Option Byte :=
  if partMarked p 3 then some (byte (byteAt p (noticeOffset p))) else none

/-- The trigger target, absent where it is not marked; it is not the timer itself (R24). -/
def parseTrigger (t : Fin 24) (p : List Byte) : Option (Option (Fin 24)) :=
  if partMarked p 4 then
    (idAt 24 p (triggerOffset p)).bind (fun target => if target = t then none else some (some target))
  else some none

/-- The period to store: a period of 0 is taken as 1 (R24). -/
def timerPeriod (p : List Byte) : Nat := max 1 (fieldAt p 4 2)

/-- The record that a TIMER_DEFINE of timer t stores (R29), where every argument is in range and goes with the others
(R24). -/
def parseTimer (t : Fin 24) (p : List Byte) : Option TimerRec :=
  if 32 ≤ byteAt p 3 then none
  else
    match parseTimerSource t p, TimerMode.ofCode (byteAt p 2), parseOutput p, parseTrigger t p with
    | some source, some mode, some output, some trigger =>
      (parseTimerKind source p).map (fun kind =>
        { state := .idle, kind := kind, mode := mode, period := timerPeriod p, source := source, output := output,
          notice := parseNoticeTag p, trigger := trigger, remaining := timerPeriod p, fires := 0, lateCount := 0 })
    | _, _, _, _ => none

/-- The parent link of a timer (R22). -/
def Device.parentOf (d : Device) (x : Fin 24) : Option (Fin 24) :=
  match d.timers[x] with
  | some r =>
    match r.source with
    | .parent p => some p
    | .time _ => none
    | .input _ _ => none
  | none => none

/-- Following parent links upward from `x`, itself included, reaches `y` (R22). -/
def reaches (parent : Fin 24 → Option (Fin 24)) : Nat → Fin 24 → Fin 24 → Bool
  | 0, _, _ => false
  | fuel + 1, x, y =>
    decide (x = y) ||
      match parent x with
      | some p => reaches parent fuel p y
      | none => false

/-- The depth of a timer (R22). -/
def chainDepth (parent : Fin 24 → Option (Fin 24)) : Nat → Fin 24 → Nat
  | 0, _ => 0
  | fuel + 1, x =>
    match parent x with
    | some p => chainDepth parent fuel p + 1
    | none => 1

/-- Timer `x` lies in the subtree of timer `t` (R22). -/
def Device.inSubtree (d : Device) (t x : Fin 24) : Bool := reaches d.parentOf 24 x t

/-- The parent links with that of timer t replaced (R28). -/
def Device.parentsWith (d : Device) (t p : Fin 24) (x : Fin 24) : Option (Fin 24) :=
  if x = t then some p else d.parentOf x

/-- The chain checks of a definition of timer t, by its source (R28). -/
def Device.chainCheck (d : Device) (t : Fin 24) (source : TimerSource) : Status :=
  match source with
  | .time _ => .ok
  | .input _ _ => .ok
  | .parent p =>
    if d.inSubtree t p then .chainLoop
    else if (List.finRange 24).any (fun x =>
        d.inSubtree t x && decide (Config.chainDepthLimit < chainDepth (d.parentsWith t p) 24 x)) then .chainDepth
    else .ok

/-- The output line of a definition is bound to a different timer (R26). -/
def Device.boundElsewhere (d : Device) (t : Fin 24) (r : TimerRec) : Bool :=
  match r.output with
  | some a =>
    match d.lines[a.line].binding with
    | some u => u != t
    | none => false
  | none => false

/-- The input line of a definition has a role other than NONE and than COUNT for this timer (R26). -/
def Device.countLineTaken (d : Device) (t : Fin 24) (r : TimerRec) : Bool :=
  match r.source with
  | .input n _ => d.inputs[n].role != .none && d.inputs[n].role != .count t
  | .time _ => false
  | .parent _ => false

/-- The source of a definition names a FREE parent (R25). -/
def Device.parentFree (d : Device) (r : TimerRec) : Bool :=
  match r.source with
  | .parent p => d.timers[p].isNone
  | .time _ => false
  | .input _ _ => false

/-- The timer is RUNNING or PAUSED. -/
def Device.timerBusy (d : Device) (t : Fin 24) : Bool :=
  match d.timers[t] with
  | some r => r.state != .idle
  | none => false

/-- The checks of a TIMER_DEFINE whose arguments are in range, in their order (R25 to R28). -/
def Device.timerDefineCheck (d : Device) (t : Fin 24) (r : TimerRec) : Status :=
  if d.parentFree r then .noSuch
  else if d.boundElsewhere t r then .lineBound
  else if d.countLineTaken t r then .inUse
  else if d.timerBusy t then .wrongState
  else d.chainCheck t r.source

/-- A definition gives up its output binding and its input claim (R29, R40). -/
def Device.releaseClaims (r : TimerRec) (d : Device) : Device :=
  let d :=
    match r.output with
    | some a => d.releaseBinding a.line
    | none => d
  match r.source with
  | .input n _ => d.setRole n .none
  | .time _ => d
  | .parent _ => d

/-- A definition takes its output binding, with the shadow at rest, and its input claim (R29). -/
def Device.takeClaims (t : Fin 24) (r : TimerRec) (d : Device) : Device :=
  let d :=
    match r.output with
    | some a => d.setLine a.line { d.lines[a.line] with binding := some t, shadow := .rest }
    | none => d
  match r.source with
  | .input n _ => d.setRole n (.count t)
  | .time _ => d
  | .parent _ => d

/-- An accepted definition of timer t (R29). -/
def Device.defineTimer (t : Fin 24) (r : TimerRec) (d : Device) : Device :=
  let d :=
    match d.timers[t] with
    | some old => d.releaseClaims old
    | none => d
  (d.setTimer t (some r)).takeClaims t r

/-- TIMER_DEFINE (R24 to R30). -/
def takeTimerDefine (p : List Byte) (d : Device) : Taken :=
  if p.length < 4 ∨ p.length ≠ timerDefineLength p then refuseEcho .badLength p d
  else
    match idAt 24 p 0 with
    | none => refuseEcho .badArg p d
    | some t =>
      match parseTimer t p with
      | none => refuseEcho .badArg p d
      | some r =>
        match d.timerDefineCheck t r with
        | .ok =>
          (d.defineTimer t r,
            (if fieldAt p 4 2 = 0 then Status.adjusted else Status.ok).code ::
              [byte t, timerStateCode (some .idle)] ++ beBytes 2 r.period)
        | st => refuseEcho st p d

/-! ### The other requests -/

/-- The checks that the one-byte timer requests share: length, id, existence (R31, R34, R37, R39, R40, R41). -/
def withTimer (p : List Byte) (d : Device) (act : Fin 24 → TimerRec → Taken) : Taken :=
  if p.length ≠ 1 then refuseEcho .badLength p d
  else
    match idAt 24 p 0 with
    | none => refuseEcho .badArg p d
    | some t =>
      match d.timers[t] with
      | none => refuseEcho .noSuch p d
      | some r => act t r

/-- TIMER_START (R31, R32): a past-due entry is handed over within it. -/
def takeTimerStart (p : List Byte) (d : Device) : Taken :=
  withTimer p d fun t r =>
    match r.state with
    | .idle =>
      let d := (d.beginTimer t r).drainPastDue
      (d, Status.ok.code :: timerReply t d)
    | .running => refuseEcho .wrongState p d
    | .paused => refuseEcho .wrongState p d

/-- TIMER_STOP (R34). -/
def takeTimerStop (p : List Byte) (d : Device) : Taken :=
  withTimer p d fun t r =>
    let d :=
      match r.state with
      | .idle => d
      | .running => d.stopTimer t r
      | .paused => d.stopTimer t r
    (d, Status.ok.code :: timerShortReply t d)

/-- A RUNNING relative timer is suspended (R37). -/
def Device.pauseTimer (t : Fin 24) (r : TimerRec) (d : Device) : Device :=
  match r.source with
  | .time sc =>
    (d.setTimer t (some { r with state := .paused, remaining := d.timerUnitsLeft t sc })).removeEntry (.timer t)
  | .parent _ => d.setTimer t (some { r with state := .paused })
  | .input _ _ => d.setTimer t (some { r with state := .paused })

/-- TIMER_PAUSE (R37). -/
def takeTimerPause (p : List Byte) (d : Device) : Taken :=
  withTimer p d fun t r =>
    match r.kind, r.state with
    | .absolute _, _ => refuseEcho .badArg p d
    | .relative, .idle => refuseEcho .wrongState p d
    | .relative, .paused => refuseEcho .wrongState p d
    | .relative, .running =>
      let d := d.pauseTimer t r
      (d, Status.ok.code :: timerShortReply t d ++ beBytes 2 ((d.timers[t].map TimerRec.remaining).getD 0))

/-- A PAUSED timer counts again from its remaining (R39). -/
def Device.resumeTimer (t : Fin 24) (r : TimerRec) (d : Device) : Device :=
  let d := d.setTimer t (some { r with state := .running })
  match r.source with
  | .time sc => d.insertEntry (.timer t) (d.elapsed + r.remaining * sc.ms) none
  | .parent _ => d
  | .input _ _ => d

/-- TIMER_RESUME (R39). -/
def takeTimerResume (p : List Byte) (d : Device) : Taken :=
  withTimer p d fun t r =>
    match r.state with
    | .paused =>
      let d := d.resumeTimer t r
      (d, Status.ok.code :: timerReply t d)
    | .idle => refuseEcho .wrongState p d
    | .running => refuseEcho .wrongState p d

/-- Another object names timer t: a child, a trigger action, or a TRIGGER role (R40). -/
def Device.timerReferenced (d : Device) (t : Fin 24) : Bool :=
  (List.finRange 24).any (fun x =>
    match d.timers[x] with
    | some r => r.childOf t || r.trigger == some t
    | none => false) ||
  (List.finRange 8).any (fun n =>
    match d.inputs[n].role with
    | .trigger u _ _ => u == t
    | .none => false
    | .checkin _ => false
    | .count _ => false)

/-- TIMER_FREE (R40). -/
def takeTimerFree (p : List Byte) (d : Device) : Taken :=
  withTimer p d fun t r =>
    if d.timerReferenced t then refuseEcho .inUse p d
    else
      match r.state with
      | .idle =>
        let d := (d.releaseClaims r).setTimer t none
        (d, Status.ok.code :: timerShortReply t d)
      | .running => refuseEcho .wrongState p d
      | .paused => refuseEcho .wrongState p d

/-- A remaining as the 16-bit field of a reply; open above 65535 (log entry 8). -/
def remainingField (n : Nat) : List Byte :=
  if n ≤ 65535 then beBytes 2 n else beBytes 2 (Config.remainingBeyond n).toNat

/-- The remaining that TIMER_QUERY reports, by state and source (R41). -/
def Device.reportedRemaining (t : Fin 24) (r : TimerRec) (d : Device) : Nat :=
  match r.state, r.source with
  | .idle, _ => r.period
  | .running, .time sc => d.timerUnitsLeft t sc
  | .running, .parent _ => r.remaining
  | .running, .input _ _ => r.remaining
  | .paused, _ => r.remaining

/-- The flags byte of a definition (Table 11-7). -/
def TimerRec.flags (r : TimerRec) : Nat :=
  (match r.source with
    | .time _ => 1
    | .parent _ => 0
    | .input _ _ => 0) +
  (match r.kind with
    | .absolute _ => 2
    | .relative => 0) +
  (if r.output.isSome then 4 else 0) + (if r.notice.isSome then 8 else 0) + (if r.trigger.isSome then 16 else 0)

/-- The source, source argument and edge bytes of a definition, 00h where the source does not use them (Table 11-8). -/
def TimerSource.fields : TimerSource → List Byte
  | .time _ => [0x00, 0x00, 0x00]
  | .parent p => [0x01, byte p, 0x00]
  | .input n e => [0x02, byte n, e.code]

/-- The definition laid out as offsets 1 to the end of Table 11-7 (Table 11-8). -/
def TimerRec.definitionBytes (r : TimerRec) : List Byte :=
  [r.kind.code, r.mode.code, byte r.flags] ++ beBytes 2 r.period ++ r.source.fields ++
  (match r.source with
    | .time sc => [sc.code]
    | .parent _ => []
    | .input _ _ => []) ++
  (match r.kind with
    | .absolute due => beBytes 6 due
    | .relative => []) ++
  (match r.output with
    | some a => [byte a.line, a.effect.code] ++ beBytes 2 a.effect.widthField
    | none => []) ++
  r.notice.toList ++ (r.trigger.map (fun u => byte u)).toList

/-- TIMER_QUERY (R41). -/
def takeTimerQuery (p : List Byte) (d : Device) : Taken :=
  withTimer p d fun t r =>
    (d, Status.ok.code :: timerShortReply t d ++ r.definitionBytes ++ remainingField (d.reportedRemaining t r) ++
      beBytes 4 r.fires ++ beBytes 2 r.lateCount ++ optInstant (d.dueOf (.timer t)))

end Sys2Proof.Machine
end

