-- ==== Sys2Proof/Machine/Escalation.lean ====
section
/-! DEFINITION. Watches: the judgement of check-ins and the escalation rules (R72, R73, Section 5, Section 6). -/

namespace Sys2Proof.Machine

/-- The phase set from the source: OPEN for LINK; for LINE, HALF while the filtered level equals the active level (R69,
R70, R76, R87). -/
def Device.sourcePhase (src : WatchSource) (d : Device) : Phase :=
  match src with
  | .link => .opened
  | .line n active => if d.inputs[n].filtered = active then .half else .opened

/-- Entry to WARN (R87). -/
def Device.enterWarn (w : Fin 16) (cause : Cause) (r : WatchRec) (d : Device) : Device :=
  ((d.setWatch w (some { r with
      state := .warn, warns := addStop16 r.warns 1, phase := d.sourcePhase r.source })).insertEntry
    (.watch w) (d.elapsed + r.grace) none).notify (.watchWarn w cause)

/-- The retrip deadline of TRIPPED watch 0 is inserted at now + period + grace (R109). -/
def Device.insertRetrip (r : WatchRec) (d : Device) : Device :=
  d.insertEntry (.watch 0) (d.elapsed + r.period + r.grace) none

/-- The part of a trip from WARN that is watch 0's own: the consecutive trip count becomes 1 and the retrip deadline is
inserted; for watches 1 to 15 the entry leaves (R91, R107). -/
def Device.tripDeadline (w : Fin 16) (r : WatchRec) (d : Device) : Device :=
  if w = 0 then ({ d with linkWatch := { d.linkWatch with consecutive := 1 } } : Device).insertRetrip r
  else d.removeEntry (.watch w)

/-- A trip from WARN (R91), with the additions for watch 0 in the order of R107: record, count, deadline, holds, RSTO
pulse, notice, trip entry. FAULT follows the record (R93). -/
def Device.trip (w : Fin 16) (cause : Cause) (r : WatchRec) (d : Device) : Device :=
  let d := d.setWatch w (some { r with state := .tripped, trips := addStop16 r.trips 1, recovery := 0 })
  let d := (d.tripDeadline w r).addHolds w r.holdSet
  let d := if w = 0 then d.startRsto else d
  (d.notify (.watchTripped w cause)).recordTrip w cause

/-- A retrip of TRIPPED watch 0 (R110), with LOCKOUT where the count reaches 3 (R111). -/
def Device.retrip (r : WatchRec) (d : Device) : Device :=
  let n := d.linkWatch.consecutive + 1
  let d := d.setWatch 0 (some { r with trips := addStop16 r.trips 1, recovery := 0 })
  let d := { d with linkWatch := { d.linkWatch with consecutive := n } }
  let d := ((d.startRsto).notify (.watchTripped 0 .retrip)).recordTrip 0 .retrip
  if n < Config.lockoutTrips then d.insertRetrip r
  else ({ d with linkWatch := { d.linkWatch with lockout := true } } : Device).notify (.linkLockout n)

/-- The abort of a release (R99): TRIPPED, recovery 0, the settle deadline gone, and for watch 0 without LOCKOUT the
retrip deadline in its place (R112). -/
def Device.abortRelease (w : Fin 16) (cause : Cause) (r : WatchRec) (d : Device) : Device :=
  let d := (d.setWatch w (some { r with state := .tripped, recovery := 0 })).removeEntry (.watch w)
  let d := if w = 0 ∧ d.linkWatch.lockout = false then d.insertRetrip r else d
  d.notify (.releaseAborted w cause)

/-- The completion of a release (R100); for watch 0 the consecutive count and LOCKOUT are cleared (R112). -/
def Device.completeRelease (w : Fin 16) (r : WatchRec) (d : Device) : Device :=
  let d := d.setWatch w (some { r with state := .running, recovery := 0, lastRenewal := some d.elapsed })
  let d := (d.dropHolds w r.holdSet).insertEntry (.watch w) (d.elapsed + r.period) none
  let d := if w = 0 then { d with linkWatch := { d.linkWatch with consecutive := 0, lockout := false } } else d
  d.notify (.releaseDone w)

/-- The record of a watch after a renewal, but for its state and recovery (R73). -/
def WatchRec.renewed (r : WatchRec) (now : Nat) : WatchRec :=
  { r with lastRenewal := some now, renewals := addStop16 r.renewals 1 }

/-- A renewal is taken by an active watch in its state (R86, R89, R94, R98, R109). -/
def Device.renew (w : Fin 16) (r : WatchRec) (d : Device) : Device :=
  let r := r.renewed d.elapsed
  match r.state with
  | .dormant => d
  | .running => (d.setWatch w (some r)).insertEntry (.watch w) (d.elapsed + r.period) none
  | .warn =>
    ((d.setWatch w (some { r with state := .running })).insertEntry
      (.watch w) (d.elapsed + r.period) none).notify (.watchRecovered w)
  | .tripped =>
    let d := d.setWatch w (some { r with recovery := min (r.recovery + 1) 2 })
    if w = 0 ∧ d.linkWatch.lockout = false then d.insertRetrip r else d
  | .releasing => d.setWatch w (some r)

/-- An early candidate is taken by an active watch in its state (R73, R88, R90, R94, R99). -/
def Device.earlyCandidate (w : Fin 16) (r : WatchRec) (d : Device) : Device :=
  let r := { r with earlyFaults := addStop16 r.earlyFaults 1 }
  match r.state with
  | .dormant => d
  | .running => d.enterWarn w .early r
  | .warn => d.trip w .early r
  | .tripped => d.setWatch w (some { r with recovery := 0 })
  | .releasing => d.abortRelease w .early r

/-- An out-of-step check-in is counted; it aborts a release and has no other effect on the state (R72, R90, R94, R99).
`r` holds the phase the phase rule has set. -/
def Device.outOfStep (w : Fin 16) (r : WatchRec) (d : Device) : Device :=
  let r := { r with outOfStep := addStop16 r.outOfStep 1 }
  match r.state with
  | .dormant => d.setWatch w (some r)
  | .running => d.setWatch w (some r)
  | .warn => d.setWatch w (some r)
  | .tripped => d.setWatch w (some r)
  | .releasing => d.abortRelease w .outOfStep r

/-- A renewal candidate is early when it comes less than min interval after the last renewal (R73). -/
def WatchRec.isEarly (r : WatchRec) (now : Nat) : Bool :=
  match r.lastRenewal with
  | some l => decide (now < l + r.minInterval)
  | none => false

/-- The record with the phase a request's half moves it to: a request moves the phase of a LINK-sourced watch alone
(R72, R83). -/
def WatchRec.movePhase (r : WatchRec) (ph : Phase) : WatchRec :=
  match r.source with
  | .link => { r with phase := ph }
  | .line _ _ => r

/-- How the phase rule answers a half (R72, R73). -/
inductive Judgement where
  | ok
  | outOfStep
  | early
deriving DecidableEq, Repr

def Judgement.status : Judgement → Status
  | .ok => .ok
  | .outOfStep => .outOfStep
  | .early => .early

/-- The preparing half reaches the phase rule (R72). -/
def Device.prepare (w : Fin 16) (r : WatchRec) (d : Device) : Device × Judgement :=
  match r.phase with
  | .opened => (d.setWatch w (some (r.movePhase .half)), .ok)
  | .half => (d.outOfStep w (r.movePhase .opened), .outOfStep)

/-- The confirming half, or a confirm form, reaches the phase rule (R72, R73, R79). `store` is what a retune stores
before its renewal is taken (R80); it acts on a renewal alone. -/
def Device.confirm (w : Fin 16) (r : WatchRec) (store : WatchRec → WatchRec) (d : Device) : Device × Judgement :=
  match r.phase with
  | .opened => (d.outOfStep w (r.movePhase .half), .outOfStep)
  | .half =>
    if r.isEarly d.elapsed then (d.earlyCandidate w (r.movePhase .opened), .early)
    else (d.renew w (store (r.movePhase .opened)), .ok)

/-- An edge of a LINE-sourced watch's line to a new filtered level (R76, R77, R144). -/
def Device.watchEdge (w : Fin 16) (level : Level) (d : Device) : Device :=
  match d.watches[w] with
  | none => d
  | some r =>
    match r.source with
    | .link => d
    | .line _ active =>
      if level = active then d.setWatch w (some { r with phase := .half })
      else if r.state = .dormant then d.setWatch w (some { r with phase := .opened })
      else if r.isEarly d.elapsed then d.earlyCandidate w { r with phase := .opened }
      else d.renew w { r with phase := .opened }

/-- The hand-over of a watch's entry, by its state: the renewal, grace, settle or retrip deadline (R87, R90, R100,
R110). -/
def Device.watchDeadline (w : Fin 16) (d : Device) : Device :=
  match d.watches[w] with
  | none => d
  | some r =>
    match r.state with
    | .dormant => d
    | .running => d.enterWarn w .expired r
    | .warn => d.trip w .expired r
    | .tripped => if w = 0 then d.retrip r else d
    | .releasing => d.completeRelease w r

/-- The watch's record as this instant will leave it: after the hand-over of its entry, where that is due and still to come
(R75; log entry 29). No other hand-over of the instant touches the record. -/
def Device.afterHandOver (w : Fin 16) (d : Device) : Device :=
  match d.entryOf (.watch w) with
  | some e => if e.due ≤ d.elapsed ∧ .watch w ∉ d.handed then d.watchDeadline w else d
  | none => d

end Sys2Proof.Machine
end

