-- ==== Sys2Proof/Machine/Watches.lean ====
section
/-! DEFINITION. The requests on watches as the dispatcher takes them (Sections 4 to 6), and the watch 0 part of RESTART
(R184). -/

namespace Sys2Proof.Machine

/-- The check-in reply: id, state, phase, recovery; phase and recovery FFh for a FREE watch (R74, R192). -/
def checkinReply (w : Fin 16) (d : Device) : List Byte :=
  match d.watches[w] with
  | some r => [byte w, watchStateCode (some r.state), r.phase.code, byte r.recovery]
  | none => [byte w, watchStateCode none, 0xFF, 0xFF]

/-- The answer to a half that reached the phase rule (R74). Where the half leaves the watch with an entry due at this
instant, the reply reports the record after both events of the instant (R75, R113; log entry 29). -/
def checkinAnswer (w : Fin 16) (res : Device × Judgement) : Taken :=
  (res.1, res.2.status.code :: checkinReply w (res.1.afterHandOver w))

/-- The checks that the one-byte watch requests share: length, id, existence (R70, R71, R84, R96). -/
def withWatch (p : List Byte) (d : Device) (act : Fin 16 → WatchRec → Taken) : Taken :=
  if p.length ≠ 1 then refuseEcho .badLength p d
  else
    match idAt 16 p 0 with
    | none => refuseEcho .badArg p d
    | some w =>
      match d.watches[w] with
      | none => refuseEcho .noSuch p d
      | some r => act w r

/-! ### WATCH_DEFINE (R67 to R69) -/

/-- The ranges of period, grace, min interval and settle (R67, R80). -/
def timingInRange (period grace minInterval settle : Nat) : Bool :=
  decide (10 ≤ period ∧ period ≤ 60000 ∧ 10 ≤ grace ∧ grace ≤ 60000 ∧ minInterval < period ∧ settle ≤ 10000)

/-- The source of a definition; the line and level bytes are not read for LINK (R67, R188). -/
def parseWatchSource (p : List Byte) : Option WatchSource :=
  match byteAt p 1 with
  | 0 => some .link
  | 1 => (idAt 8 p 2).bind (fun n => (levelOfCode (byteAt p 3)).map (WatchSource.line n))
  | _ => none

/-- The record a WATCH_DEFINE stores, but for its phase (R69), where its arguments are in range (R67). -/
def parseWatch (p : List Byte) : Option WatchRec :=
  if timingInRange (fieldAt p 4 2) (fieldAt p 6 2) (fieldAt p 8 2) (fieldAt p 10 2) then
    (parseWatchSource p).map (fun src =>
      { state := .dormant, source := src, phase := .opened, period := fieldAt p 4 2, grace := fieldAt p 6 2,
        minInterval := fieldAt p 8 2, settle := fieldAt p 10 2, holdSet := byte (byteAt p 12), lastRenewal := none,
        recovery := 0, renewals := 0, warns := 0, earlyFaults := 0, outOfStep := 0, trips := 0 })
  else none

/-- The check-in line of a definition has a role other than NONE and than CHECKIN for this watch (R68). -/
def Device.checkinLineTaken (d : Device) (w : Fin 16) (r : WatchRec) : Bool :=
  match r.source with
  | .line n _ => d.inputs[n].role != .none && d.inputs[n].role != .checkin w
  | .link => false

/-- The watch is in an active state (R64). -/
def Device.watchActive (d : Device) (w : Fin 16) : Bool :=
  match d.watches[w] with
  | some r => r.state.active
  | none => false

/-- A definition gives up its input claim (R69, R82). -/
def Device.releaseCheckin (r : WatchRec) (d : Device) : Device :=
  match r.source with
  | .line n _ => d.setRole n .none
  | .link => d

/-- A definition takes its input claim (R69). -/
def Device.takeCheckin (w : Fin 16) (r : WatchRec) (d : Device) : Device :=
  match r.source with
  | .line n _ => d.setRole n (.checkin w)
  | .link => d

/-- An accepted definition of watch w (R69). -/
def Device.defineWatch (w : Fin 16) (r : WatchRec) (d : Device) : Device :=
  let d :=
    match d.watches[w] with
    | some old => d.releaseCheckin old
    | none => d
  (d.setWatch w (some { r with phase := d.sourcePhase r.source })).takeCheckin w r

/-- WATCH_DEFINE (R67 to R69). -/
def takeWatchDefine (p : List Byte) (d : Device) : Taken :=
  if p.length ≠ 13 then refuseEcho .badLength p d
  else
    match idAt 16 p 0, parseWatch p with
    | some w, some r =>
      if w = 0 then refuseEcho .badArg p d
      else if d.checkinLineTaken w r then refuseEcho .inUse p d
      else if d.watchActive w then refuseEcho .wrongState p d
      else
        (d.defineWatch w r,
          Status.ok.code :: [byte w, watchStateCode (some .dormant), (d.sourcePhase r.source).code])
    | _, _ => refuseEcho .badArg p d

/-! ### WATCH_START (R70) -/

/-- A DORMANT watch comes into supervision (R70). -/
def Device.startWatch (w : Fin 16) (r : WatchRec) (d : Device) : Device :=
  (d.setWatch w (some { r with
      state := .running, lastRenewal := some d.elapsed, recovery := 0, phase := d.sourcePhase r.source })).insertEntry
    (.watch w) (d.elapsed + r.period) none

/-- WATCH_START (R70). -/
def takeWatchStart (p : List Byte) (d : Device) : Taken :=
  withWatch p d fun w r =>
    if r.state = .dormant then
      let d' := d.startWatch w r
      (d', Status.ok.code ::
        [byte w, watchStateCode (some .running), (d.sourcePhase r.source).code] ++
          beBytes 6 ((d'.dueOf (.watch w)).getD 0))
    else refuseEcho .wrongState p d

/-! ### Link check-ins (R71 to R74) -/

/-- The checks of a link check-in after existence: source, then state (R71). -/
def withLinkCheckin (p : List Byte) (d : Device) (act : Fin 16 → WatchRec → Taken) : Taken :=
  withWatch p d fun w r =>
    match r.source, r.state with
    | .line _ _, _ => refuseEcho .wrongSource p d
    | .link, .dormant => refuseEcho .wrongState p d
    | .link, .running => act w r
    | .link, .warn => act w r
    | .link, .tripped => act w r
    | .link, .releasing => act w r

/-- CHECK_PREP (R71, R72). -/
def takeCheckPrep (p : List Byte) (d : Device) : Taken :=
  withLinkCheckin p d fun w r => checkinAnswer w (d.prepare w r)

/-- CHECK_CONF (R71 to R73). -/
def takeCheckConf (p : List Byte) (d : Device) : Taken :=
  withLinkCheckin p d fun w r => checkinAnswer w (d.confirm w r id)

/-! ### Confirm forms (R79 to R83) -/

/-- The period and grace that a period code selects (Table 6-2). -/
def linkPeriod : Fin 4 → Nat
  | 0 => 250
  | 1 => 1000
  | 2 => 4000
  | 3 => 16000

/-- What a retune of watches 1 to 15 stores (R80). -/
def WatchRec.retuned (period grace minInterval settle : Nat) (holdSet : BitVec 8) (r : WatchRec) : WatchRec :=
  { r with period := period, grace := grace, minInterval := minInterval, settle := settle, holdSet := holdSet }

/-- A retune reaches the phase rule in RUNNING and WARN alone (R80, R81). -/
def retuneState (p : List Byte) (d : Device) (st : WatchState) (act : Taken) : Taken :=
  match st with
  | .running => act
  | .warn => act
  | .dormant => refuseEcho .wrongState p d
  | .tripped => refuseEcho .wrongState p d
  | .releasing => refuseEcho .wrongState p d

/-- WATCH_RETUNE of watch 0 (R81, R106): the period code, hold set and RSTO width are stored where it is a renewal. -/
def takeRetuneLink (p : List Byte) (d : Device) : Taken :=
  if p.length ≠ 4 then refuseEcho .badLength p d
  else
    match idAt 4 p 1 with
    | none => refuseEcho .badArg p d
    | some code =>
      if 10 ≤ byteAt p 3 ∧ byteAt p 3 ≤ 250 then
        match d.watches[(0 : Fin 16)] with
        | none => refuseEcho .noSuch p d
        | some r =>
          retuneState p d r.state <|
            let res := d.confirm 0 r (fun r =>
              { r with period := linkPeriod code, grace := linkPeriod code, holdSet := byte (byteAt p 2) })
            checkinAnswer 0
              (match res.2 with
                | .ok =>
                  ({ res.1 with linkWatch :=
                      { res.1.linkWatch with periodCode := code, rstoWidth := byteAt p 3 } }, res.2)
                | .outOfStep => res
                | .early => res)
      else refuseEcho .badArg p d

/-- WATCH_RETUNE (R80, R81): the first byte selects the form (R191). -/
def takeWatchRetune (p : List Byte) (d : Device) : Taken :=
  if p.length = 0 then refuseEcho .badLength p d
  else if byteAt p 0 = 0 then takeRetuneLink p d
  else if p.length ≠ 10 then refuseEcho .badLength p d
  else
    match idAt 16 p 0 with
    | none => refuseEcho .badArg p d
    | some w =>
      if timingInRange (fieldAt p 1 2) (fieldAt p 3 2) (fieldAt p 5 2) (fieldAt p 7 2) then
        match d.watches[w] with
        | none => refuseEcho .noSuch p d
        | some r =>
          match r.source with
          | .line _ _ => refuseEcho .wrongSource p d
          | .link =>
            retuneState p d r.state <|
              checkinAnswer w (d.confirm w r
                (WatchRec.retuned (fieldAt p 1 2) (fieldAt p 3 2) (fieldAt p 5 2) (fieldAt p 7 2) (byte (byteAt p 9))))
      else refuseEcho .badArg p d

/-- A watch is freed: its entry and its input claim leave and its record is gone (R82). -/
def Device.freeWatch (w : Fin 16) (r : WatchRec) (d : Device) : Device :=
  ((d.removeEntry (.watch w)).releaseCheckin r).setWatch w none

/-- A retire of a RUNNING or WARN watch reaches the phase rule; where it is a renewal, the watch is then freed (R82). -/
def Device.retireActive (w : Fin 16) (r : WatchRec) (d : Device) : Device × Judgement :=
  let res := d.confirm w r id
  match res.2 with
  | .ok => (res.1.freeWatch w r, .ok)
  | .outOfStep => res
  | .early => res

/-- WATCH_RETIRE (R82, R83): a DORMANT watch is freed at once, a RUNNING or WARN one where the retire is a renewal. -/
def takeWatchRetire (p : List Byte) (d : Device) : Taken :=
  if p.length = 1 ∧ byteAt p 0 = 0 then refuseEcho .badArg p d
  else
    withWatch p d fun w r =>
      match r.state with
      | .dormant =>
        let d := d.freeWatch w r
        (d, Status.ok.code :: checkinReply w d)
      | .running => checkinAnswer w (d.retireActive w r)
      | .warn => checkinAnswer w (d.retireActive w r)
      | .tripped => refuseEcho .wrongState p d
      | .releasing => refuseEcho .wrongState p d

/-- The watch 0 part of RESTART: it reaches the phase rule in every state (R184). The judgement says whether the
restart follows. -/
def restartConfirm (d : Device) : Device × Judgement :=
  match d.watches[(0 : Fin 16)] with
  | some r => d.confirm 0 r id
  | none => (d, .outOfStep)

/-- RESTART (R184, R185): a frame with a payload is refused; where the confirm form renews, the receive queue is
discarded and the restart becomes pending, and the reply reports what the renewal left (R184). The reply joins the reply
queue as every reply does. -/
def takeRestart (p : List Byte) (d : Device) : Taken :=
  if p.length ≠ 0 then refusePlain .badLength d
  else
    let res := restartConfirm d
    match res.2 with
    | .ok =>
      ({ res.1 with link := { res.1.link with receiveQueue := [], restartPending := true } },
        Status.ok.code :: checkinReply 0 res.1)
    | .outOfStep => checkinAnswer 0 res
    | .early => checkinAnswer 0 res

/-! ### Release (R96, R97) -/

/-- WATCH_RELEASE is accepted (R96); a settle of 0 completes within the request (R97). -/
def Device.releaseWatch (w : Fin 16) (r : WatchRec) (d : Device) : Device :=
  let r := { r with state := .releasing }
  if r.settle = 0 then (d.setWatch w (some r)).completeRelease w r
  else (d.setWatch w (some r)).insertEntry (.watch w) (d.elapsed + r.settle) none

/-- WATCH_RELEASE (R96). -/
def takeWatchRelease (p : List Byte) (d : Device) : Taken :=
  withWatch p d fun w r =>
    if r.state ≠ .tripped then refuseEcho .wrongState p d
    else if r.recovery < 2 then (d, Status.notRecovered.code :: checkinReply w d)
    else
      let d := d.releaseWatch w r
      (d, Status.ok.code :: checkinReply w d ++ optInstant (d.dueOf (.watch w)))

/-! ### WATCH_QUERY (R84) -/

/-- The source, line and active level bytes, FFh for LINK (Table 11-9). -/
def WatchSource.fields : WatchSource → List Byte
  | .link => [0x00, 0xFF, 0xFF]
  | .line n a => [0x01, byte n, levelCode a]

/-- The fields of watch 0's own, FFh for watches 1 to 15 (Table 11-9). -/
def LinkWatch.fields (w : Fin 16) (lw : LinkWatch) : List Byte :=
  if w = 0 then [byte lw.periodCode, byte lw.rstoWidth, boolCode lw.lockout, byte lw.consecutive]
  else [0xFF, 0xFF, 0xFF, 0xFF]

/-- WATCH_QUERY (R84, Table 11-9). -/
def takeWatchQuery (p : List Byte) (d : Device) : Taken :=
  withWatch p d fun w r =>
    (d, Status.ok.code :: [byte w, watchStateCode (some r.state)] ++ r.source.fields ++ [r.phase.code] ++
      beBytes 2 r.period ++ beBytes 2 r.grace ++ beBytes 2 r.minInterval ++ beBytes 2 r.settle ++ [r.holdSet] ++
      optInstant r.lastRenewal ++ [byte r.recovery] ++
      beBytes 2 r.renewals ++ beBytes 2 r.warns ++ beBytes 2 r.earlyFaults ++ beBytes 2 r.outOfStep ++
      beBytes 2 r.trips ++ optInstant (d.dueOf (.watch w)) ++ LinkWatch.fields w d.linkWatch)

end Sys2Proof.Machine
end

