-- ==== Sys2Proof/Machine/Inputs.lean ====
section
/-! DEFINITION. The input unit: samples, the filter and the delivery of edges (R140 to R146), and its two requests
(R147 to R150). -/

namespace Sys2Proof.Machine

/-- The level of a sample of line n: bit n of the levels on the pins (R140). -/
def pinLevel (levels : BitVec 8) (n : Fin 8) : Level := if levels.getLsbD n then .high else .low

/-- An edge on a COUNT line reaches its timer (R61, R145). -/
def Device.countEdge (t : Fin 24) (level : Level) (d : Device) : Device :=
  match d.timers[t] with
  | none => d
  | some r =>
    match r.source, r.state with
    | .input _ e, .running =>
      if e.qualifies level then d.takeCount (fun d => d.expireTimer t d.elapsed false) t r else d
    | .input _ _, .idle => d
    | .input _ _, .paused => d
    | .time _, _ => d
    | .parent _, _ => d

/-- A STOP edge acts as TIMER_STOP does (R146). -/
def Device.stopEdge (t : Fin 24) (d : Device) : Device :=
  match d.timers[t] with
  | none => d
  | some r =>
    match r.state with
    | .idle => d
    | .running => d.stopTimer t r
    | .paused => d.stopTimer t r

/-- An edge is delivered to the owner that the line's role names, with the new filtered level (R142, R144 to R146). -/
def Device.deliverEdge (role : Role) (level : Level) (d : Device) : Device :=
  match role with
  | .none => d
  | .checkin w => d.watchEdge w level
  | .count t => d.countEdge t level
  | .trigger t e .start => if e.qualifies level then d.triggerTimer t else d
  | .trigger t e .stop => if e.qualifies level then d.stopEdge t else d

/-- The filter's work on one sample: the record after it, and whether it produced an edge, which counts on the line
(R141, R142). -/
def InputRec.sample (r : InputRec) (level : Level) : InputRec × Bool :=
  if level = r.filtered then ({ r with raw := level, run := 0 }, false)
  else if r.width + 1 ≤ r.run + 1 then
    ({ r with raw := level, filtered := level, run := 0, edges := incWrap16 r.edges }, true)
  else ({ r with raw := level, run := r.run + 1 }, false)

/-- One line's sample, and its edge's whole event with the past-due hand-overs it causes (R142). -/
def Device.sampleLine (n : Fin 8) (level : Level) (d : Device) : Device :=
  let res := d.inputs[n].sample level
  let d := d.setInput n res.1
  if res.2 then (d.deliverEdge res.1.role level).drainPastDue else d

/-- The order in which the lines are taken: the lines named first, then the others in ascending order (log entry 3). -/
def lineOrder (order : List (Fin 8)) : List (Fin 8) :=
  order.eraseDups ++ (List.finRange 8).filter (fun n => n ∉ order)

/-- The record after a first sample at the end of a reset (R151). -/
def firstSamples (pins : BitVec 8) : Vector InputRec 8 :=
  Vector.ofFn (fun n => InputRec.default (pinLevel pins n))

/-- The role an INPUT_CONFIG gives, where its arguments are in range (R147). -/
def parseRole (p : List Byte) : Option Role :=
  match byteAt p 1 with
  | 0 => some .none
  | 2 =>
    match idAt 24 p 3, Edge.ofCode (byteAt p 4), TriggerAct.ofCode (byteAt p 5) with
    | some t, some e, some a => some (.trigger t e a)
    | _, _, _ => none
  | _ => none

/-- The payload length that the role code of an INPUT_CONFIG selects (R191). -/
def inputConfigLength (p : List Byte) : Nat := if byteAt p 1 = 2 then 6 else 3

/-- The role names a FREE timer (R147). -/
def Device.roleTargetFree (d : Device) (role : Role) : Bool :=
  match role with
  | .trigger t _ _ => d.timers[t].isNone
  | .none => false
  | .checkin _ => false
  | .count _ => false

/-- CHECKIN and COUNT are claims (R143). -/
def Role.isClaim : Role → Bool
  | .checkin _ => true
  | .count _ => true
  | .none => false
  | .trigger _ _ _ => false

/-- INPUT_CONFIG (R147, R148). -/
def takeInputConfig (p : List Byte) (d : Device) : Taken :=
  if p.length < 2 ∨ p.length ≠ inputConfigLength p then refuseEcho .badLength p d
  else
    match idAt 8 p 0, parseRole p with
    | some n, some role =>
      if 15 < byteAt p 2 then refuseEcho .badArg p d
      else if d.roleTargetFree role then refuseEcho .noSuch p d
      else if d.inputs[n].role.isClaim then refuseEcho .inUse p d
      else
        (d.setInput n { d.inputs[n] with role := role, width := byteAt p 2 },
          [Status.ok.code, byte n] ++ role.fields ++ [byte (byteAt p 2), levelCode d.inputs[n].filtered])
    | _, _ => refuseEcho .badArg p d

/-- INPUT_QUERY (R150, Table 11-10). -/
def takeInputQuery (p : List Byte) (d : Device) : Taken :=
  if p.length ≠ 1 then refuseEcho .badLength p d
  else
    match idAt 8 p 0 with
    | none => refuseEcho .badArg p d
    | some n =>
      let r := d.inputs[n]
      (d, [Status.ok.code, byte n, levelCode r.raw, levelCode r.filtered, byte r.run, byte r.width] ++ r.role.fields ++
        beBytes 2 r.edges)

end Sys2Proof.Machine
end

