-- ==== Sys2Proof/Machine/Lines.lean ====
section
/-! DEFINITION. The requests on output lines as the dispatcher takes them (R130 to R135) and the end of a pulse (R127). -/

namespace Sys2Proof.Machine

/-- LINE_SET (R130). -/
def takeLineSet (p : List Byte) (d : Device) : Taken :=
  if p.length ≠ 2 then refuseEcho .badLength p d
  else
    match idAt 8 p 0, Shadow.ofCode (byteAt p 1) with
    | some n, some sh =>
      if d.lines[n].binding.isSome then refuseEcho .lineBound p d
      else
        let d := d.setShadow n sh
        (d, [Status.ok.code, byte n, sh.code, levelCode d.lines[n].driven])
    | _, _ => refuseEcho .badArg p d

/-- LINE_CONFIG (R131, R132). -/
def takeLineConfig (p : List Byte) (d : Device) : Taken :=
  if p.length ≠ 3 then refuseEcho .badLength p d
  else
    match idAt 8 p 0, levelOfCode (byteAt p 1), levelOfCode (byteAt p 2) with
    | some n, some rest, some safe =>
      if d.lineLocked n then refuseEcho .locked p d
      else if d.lines[n].binding.isSome then refuseEcho .lineBound p d
      else if d.lines[n].heldSafe then refuseEcho .wrongState p d
      else
        let d := d.setLine n { d.lines[n] with restLevel := rest, safeLevel := safe, shadow := .rest }
        (d, [Status.ok.code, byte n, levelCode rest, levelCode safe, levelCode d.lines[n].driven])
    | _, _, _ => refuseEcho .badArg p d

/-- Reply fields of LINE_HOLD and LINE_UNHOLD: the lines held by HOST, and the lines with any holder (R133). -/
def holdReply (d : Device) : List Byte :=
  [setOf (fun n => d.lines[n].hostHolder), setOf (fun n => d.lines[n].heldSafe)]

/-- LINE_HOLD (R133). -/
def takeLineHold (p : List Byte) (d : Device) : Taken :=
  if p.length ≠ 1 then refusePlain .badLength d
  else
    let d := d.setHostHold true (byte (byteAt p 0))
    (d, Status.ok.code :: holdReply d)

/-- LINE_UNHOLD (R134). -/
def takeLineUnhold (p : List Byte) (d : Device) : Taken :=
  if p.length ≠ 1 then refusePlain .badLength d
  else
    let d := d.setHostHold false (byte (byteAt p 0))
    (d, Status.ok.code :: holdReply d)

/-- Milliseconds left to an instant. -/
def Device.timeLeft (d : Device) (t : Nat) : Nat := t - d.elapsed

/-- LINE_QUERY (R135, Table 11-10). -/
def takeLineQuery (p : List Byte) (d : Device) : Taken :=
  if p.length ≠ 1 then refuseEcho .badLength p d
  else
    match idAt 8 p 0 with
    | none => refuseEcho .badArg p d
    | some n =>
      let l := d.lines[n]
      (d, [Status.ok.code, byte n, levelCode l.restLevel, levelCode l.safeLevel, l.shadow.code, levelCode l.driven,
          optByte (l.binding.map Fin.val)] ++ beBytes 2 l.watchHolders.toNat ++ [boolCode l.hostHolder] ++
        optInstant l.pulseEnd ++ beBytes 2 ((l.pulseEnd.map d.timeLeft).getD 0) ++
        beBytes 2 (d.locking n).toNat ++
        [levelCode d.rsto, optByte ((d.dueOf .rstoPulse).map d.timeLeft), levelCode d.faultPin])

/-- The end of a pulse: the shadow to REST, the pulse end absent (R127). -/
def Device.endPulse (n : Fin 8) (d : Device) : Device :=
  d.setLine n { d.lines[n] with shadow := .rest, pulseEnd := none }

end Sys2Proof.Machine
end

