-- ==== Sys2Proof/Machine/Notices.lean ====
section
/-! DEFINITION. Sending, resending and acknowledging notices (R158 to R165), and the layout of a notice frame (R193). -/

namespace Sys2Proof.Machine

/-- The number of SENT notices. -/
def NoticeQueue.sentCount (q : NoticeQueue) : Nat := q.queue.countP Notice.isSent

/-- The kind code of a notice (Table 11-2). -/
def NoticeBody.code : NoticeBody → Byte
  | .started _ _ => 0x60
  | .timerFired _ _ _ _ _ => 0x61
  | .watchWarn _ _ => 0x62
  | .watchRecovered _ => 0x63
  | .watchTripped _ _ => 0x64
  | .releaseDone _ => 0x65
  | .releaseAborted _ _ => 0x66
  | .linkLockout _ => 0x67

/-- Subject kind and subject id (Table 11-12). -/
def NoticeBody.subject : NoticeBody → List Byte
  | .started _ _ => [0x00, 0xFF]
  | .timerFired t _ _ _ _ => [0x01, byte t]
  | .watchWarn w _ => [0x02, byte w]
  | .watchRecovered w => [0x02, byte w]
  | .watchTripped w _ => [0x02, byte w]
  | .releaseDone w => [0x02, byte w]
  | .releaseAborted w _ => [0x02, byte w]
  | .linkLockout _ => [0x02, 0x00]

/-- The detail fields of a notice (Table 11-13). -/
def NoticeBody.details : NoticeBody → List Byte
  | .started cause gen => cause.code :: beBytes 2 gen
  | .timerFired _ tag fires late missed => tag :: beBytes 4 fires ++ [boolCode late] ++ beBytes 2 missed
  | .watchWarn _ cause => [cause.code]
  | .watchRecovered _ => []
  | .watchTripped _ cause => [cause.code]
  | .releaseDone _ => []
  | .releaseAborted _ cause => [cause.code]
  | .linkLockout n => [byte n]

/-- The tag byte of a notice frame: its seq (R190). -/
def Notice.seqByte (n : Notice) : Byte :=
  match n.state with
  | .unsent => 0
  | .sent seq _ => byte seq

/-- The frame of a notice as it stands (R165, R193). -/
def Notice.frame (n : Notice) : Frame where
  kind := n.body.code
  tag := n.seqByte
  payload :=
    [n.body.cls.code] ++ beBytes 2 n.attempts ++ beBytes 6 n.instant ++ n.body.subject ++ beBytes 2 n.lostBefore ++
      n.body.details

/-- A resend clears the mark and counts the attempt (R160). -/
def Notice.resent (n : Notice) : Notice :=
  match n.state with
  | .unsent => n
  | .sent seq _ => { n with state := .sent seq false, attempts := addStop16 n.attempts 1 }

/-- A first send (R159). -/
def Notice.firstSent (seq : Nat) (n : Notice) : Notice := { n with state := .sent seq false, attempts := 1 }

/-- The resend deadline is inserted at now + 250 (R159, R161, R162). -/
def Device.insertResend (d : Device) : Device := d.insertEntry .resend (d.elapsed + Config.resendInterval) none

/-- The arbiter begins a frame (R180). -/
def Device.transmit (f : Frame) (d : Device) : Device := { d with link := { d.link with transmitting := some f } }

/-- A notice's frame begins: the oldest marked SENT notice, or else, with fewer than 4 SENT, the oldest UNSENT one; or
none (R158 to R160). -/
def Device.sendNotice (d : Device) : Device :=
  match updateFirst Notice.isMarked Notice.resent d.notices.queue with
  | some (n, q) => ({ d with notices := { d.notices with queue := q } } : Device).transmit n.frame
  | none =>
    if d.notices.sentCount < Config.sendWindow then
      match updateFirst (fun n => !n.isSent) (Notice.firstSent d.notices.nextSeq) d.notices.queue with
      | none => d
      | some (n, q) =>
        let d := ({ d with
          notices := { d.notices with queue := q, nextSeq := (d.notices.nextSeq + 1) % 256 } } : Device)
        (if (d.entryOf .resend).isSome then d else d.insertResend).transmit n.frame
    else d

/-- A SENT notice is marked for resend (R161). -/
def Notice.marked (n : Notice) : Notice :=
  match n.state with
  | .unsent => n
  | .sent seq _ => { n with state := .sent seq true }

/-- The hand-over of the resend deadline (R161). -/
def Device.resendDeadline (d : Device) : Device :=
  if 0 < d.notices.sentCount then
    ({ d with notices := { d.notices with queue := d.notices.queue.map Notice.marked } } : Device).insertResend
  else d

/-- Removes the first notice with a property and every older one; the number removed, and the rest (R162). -/
def dropThrough (p : Notice → Bool) : List Notice → Option (Nat × List Notice)
  | [] => none
  | n :: rest =>
    if p n then some (1, rest)
    else
      match dropThrough p rest with
      | some (k, l) => some (k + 1, l)
      | none => none

/-- The three counts of a NOTICE_ACK reply (R162). -/
def ackCounts (removed : Nat) (d : Device) : List Byte :=
  [byte removed, byte d.notices.sentCount, byte d.notices.queue.length]

/-- NOTICE_ACK (R162). -/
def takeNoticeAck (p : List Byte) (d : Device) : Taken :=
  if p.length ≠ 1 then refusePlain .badLength d
  else
    match dropThrough (Notice.hasSeq (byteAt p 0)) d.notices.queue with
    | none => (d, Status.staleAck.code :: ackCounts 0 d)
    | some (k, rest) =>
      let d := ({ d with notices := { d.notices with queue := rest } } : Device)
      let d := if 0 < d.notices.sentCount then d.insertResend else d.removeEntry .resend
      (d, Status.ok.code :: ackCounts k d)

end Sys2Proof.Machine
end

