-- ==== Sys2Proof/Machine/TimeBase.lean ====
section
/-! DEFINITION. The time base and the reading of the schedule: TIME_SET, TIME_GET, SCHEDULE_QUERY (Section 1). -/

namespace Sys2Proof.Machine

/-- The wall offset a TIME_SET leaves: the wall value minus now, a signed 48-bit value (R2, R4); open outside that range
(log entry 5). -/
def offsetFor (wall now : Nat) : Int :=
  let off : Int := (wall : Int) - now
  if -140737488355328 ≤ off ∧ off ≤ 140737488355327 then off else (Config.offsetBeyond wall now).toInt

/-- An absolute entry re-keyed to a wall offset; its insertion position stays (R5). The new due instant is the due wall
time minus the offset for an entry that R14 delayed, too, whatever the step: with its due wall time passed it is past due,
where R5's last sentence (a zero step) and R6 (a backward step) say otherwise (DESIGN CHOICE, log entry 26). -/
def Entry.rekey (off : Int) (now : Nat) (e : Entry) : Entry :=
  match e.wall with
  | none => e
  | some w =>
    let due := clipDue (w - off)
    { e with due := due, pastDue := decide (due ≤ now) }

/-- The list in the order of R8. -/
def sortEntries (l : List Entry) : List Entry := l.foldl (fun acc e => placeEntry e acc) []

/-- A re-keyed entry at or before now whose owner has been handed over at this instant: it is recorded at now + 1 and
placed anew (R14). -/
def Device.delayedEntry (d : Device) (e : Entry) : Bool := e.pastDue && d.handed.contains e.owner

/-- Re-keying of the absolute entries (R5), with the limit of R14. Where R14 delays several, they are placed anew in the
order in which they stood before the re-keying (DESIGN CHOICE, log entry 27). -/
def Device.rekeyEntries (d : Device) : Device :=
  let l := d.deadlines.map (Entry.rekey d.wallOffset d.elapsed)
  let kept := sortEntries (l.filter (fun e => !d.delayedEntry e))
  (l.filter d.delayedEntry).foldl (fun acc e => acc.insertEntry e.owner e.due e.wall) { d with deadlines := kept }

/-- The number of absolute entries that the re-keying finds at or before now (R4), those that R14 had delayed among them (log
entries 15 and 26). -/
def Device.pastDueCount (d : Device) : Nat :=
  (d.deadlines.map (Entry.rekey d.wallOffset d.elapsed)).countP (fun e => e.wall.isSome && e.pastDue)

/-- TIME_SET (R4 to R6): the offset is set, the absolute entries are re-keyed, and those made past due are handed over
within the request. -/
def takeTimeSet (p : List Byte) (d : Device) : Taken :=
  if p.length ≠ 6 then refusePlain .badLength d
  else if Config.maxDueWall < fieldAt p 0 6 then refusePlain .badArg d
  else
    let old := d.wall
    let d := { d with wallOffset := offsetFor (fieldAt p 0 6) d.elapsed }
    (d.rekeyEntries.drainPastDue, Status.ok.code :: stepField (d.wall - old) ++ [byte d.pastDueCount])

/-- TIME_GET (R3): both fields from one now. -/
def takeTimeGet (p : List Byte) (d : Device) : Taken :=
  if p.length ≠ 0 then refusePlain .badLength d
  else (d, Status.ok.code :: beBytes 6 d.elapsed ++ beBytes 6 (wallValue d.wall))

/-- A returned entry: owner kind, owner index, due instant (R16, R192). -/
def Entry.fields (e : Entry) : List Byte := e.owner.code ++ beBytes 6 e.due.toNat

/-- SCHEDULE_QUERY (R16). -/
def takeScheduleQuery (p : List Byte) (d : Device) : Taken :=
  if p.length ≠ 1 then refusePlain .badLength d
  else
    (d, [Status.ok.code, byte d.deadlines.length, byte (byteAt p 0)] ++
      ((d.deadlines.drop (byteAt p 0)).take 6).flatMap Entry.fields)

end Sys2Proof.Machine
end

