-- ==== Sys2Proof/Machine/LinkPort.lean ====
section
/-! DEFINITION. The link port (Section 10): the CRC, the dispatcher, the transmit arbiter, the receive queue and the
receive assembly; and the two requests on the port itself, IDENTIFY and LINK_QUERY. -/

namespace Sys2Proof.Machine

/-! ### CRC (R172) -/

/-- One bit of the CRC's shift: generator 1021h, most significant bit first (R172). -/
def crcShift (c : BitVec 16) : BitVec 16 := if c.getLsbD 15 then (c <<< 1) ^^^ 0x1021#16 else c <<< 1

/-- One byte into the CRC (R172). -/
def crcByte (c : BitVec 16) (b : Byte) : BitVec 16 :=
  crcShift (crcShift (crcShift (crcShift (crcShift (crcShift (crcShift (crcShift (c ^^^ (b.zeroExtend 16 <<< 8)))))))))

/-- The CRC-16 of a run of bytes: initial value FFFFh, no reflection, no final value (R172). -/
def crc16 (bytes : List Byte) : BitVec 16 := bytes.foldl crcByte 0xFFFF

/-- The bytes of a frame that the CRC covers: length, kind, tag, payload (R172). -/
def Frame.covered (f : Frame) : List Byte := [byte f.payload.length, f.kind, f.tag] ++ f.payload

/-- A frame as it stands on the link (R169, Table 11-1): what TXD carries while the transmitter carries it. -/
def Frame.wire (f : Frame) : List Byte := [0xC3] ++ f.covered ++ beBytes 2 (crc16 f.covered).toNat

/-! ### Characters, TXD and the bit rate (R168) -/

/-- The level that stands for a bit on the link. -/
def bitLevel (b : Bool) : Level := if b then .high else .low

/-- A character on RXD or TXD, one level a bit time: start bit LOW, 8 data bits least significant first, stop bit HIGH. -/
def character (b : Byte) : List Level :=
  [.low] ++ (List.range 8).map (fun i => bitLevel (b.getLsbD i)) ++ [.high]

/-- The byte that the receiver takes from the ten levels of a character: its 8 data bits, whatever the stop bit. It is the
operand of the byte commands (log entry 10). -/
def characterByte (levels : List Level) : Byte :=
  setOf (fun i => levels[i.val + 1]? == some .high)

/-- The levels of a frame on TXD, its characters one behind another. -/
def Frame.levels (f : Frame) : List Level := f.wire.flatMap character

/-- The level of TXD, `bit` whole bit times after the present frame began: that of the frame in transmission, and HIGH
whenever no character is being sent (R168), as in every reset (R187). Bit times lie below the tick (log entry 18). -/
def Device.txd (d : Device) (bit : Nat) : Level :=
  if d.inReset then .high
  else
    match d.link.transmitting with
    | some f => (f.levels[bit]?).getD .high
    | none => .high

/-- The bit rate, in bit/s, that the level of SPD sampled at the last reset selects. -/
def LinkPort.bitRate (l : LinkPort) : Nat :=
  match l.spd with
  | .low => 115200
  | .high => 460800

/-! ### IDENTIFY and LINK_QUERY -/

/-- IDENTIFY (R182): family 5Dh, part 2416h, revision 01h, the six capacities, elapsed time. -/
def takeIdentify (p : List Byte) (d : Device) : Taken :=
  if p.length ≠ 0 then refusePlain .badLength d
  else
    (d, [Status.ok.code, 0x5D, 0x24, 0x16, 0x01, byte 24, byte 16, byte 8, byte 8, byte Config.noticeCapacity,
        byte Config.deadlineCapacity] ++ beBytes 6 d.elapsed)

/-- The six counters as LINK_QUERY carries them (Table 11-6). -/
def LinkCounters.fields (c : LinkCounters) : List Byte :=
  beBytes 2 c.noise ++ beBytes 2 c.badLength ++ beBytes 2 c.badCrc ++ beBytes 2 c.gap ++ beBytes 2 c.overrun ++
    beBytes 2 c.unknownRequest

/-- A change of the link counters alone. -/
def Device.setCounters (c : LinkCounters) (d : Device) : Device := { d with link := { d.link with counters := c } }

/-- LINK_QUERY (R183). -/
def takeLinkQuery (p : List Byte) (d : Device) : Taken :=
  if p.length ≠ 1 then refusePlain .badLength d
  else
    match byteAt p 0 with
    | 0 => (d, Status.ok.code :: d.link.counters.fields)
    | 1 => (d.setCounters LinkCounters.zero, Status.ok.code :: d.link.counters.fields)
    | _ => refusePlain .badArg d

/-! ### Dispatch (R176 to R179) -/

/-- A request takes effect (R177), by its kind. -/
def takeRequest (r : Request) (p : List Byte) (d : Device) : Taken :=
  match r with
  | .identify => takeIdentify p d
  | .linkQuery => takeLinkQuery p d
  | .restart => takeRestart p d
  | .timeSet => takeTimeSet p d
  | .timeGet => takeTimeGet p d
  | .scheduleQuery => takeScheduleQuery p d
  | .timerDefine => takeTimerDefine p d
  | .timerStart => takeTimerStart p d
  | .timerStop => takeTimerStop p d
  | .timerPause => takeTimerPause p d
  | .timerResume => takeTimerResume p d
  | .timerFree => takeTimerFree p d
  | .timerQuery => takeTimerQuery p d
  | .watchDefine => takeWatchDefine p d
  | .watchStart => takeWatchStart p d
  | .checkPrep => takeCheckPrep p d
  | .checkConf => takeCheckConf p d
  | .watchRetune => takeWatchRetune p d
  | .watchRetire => takeWatchRetire p d
  | .watchRelease => takeWatchRelease p d
  | .watchQuery => takeWatchQuery p d
  | .lineConfig => takeLineConfig p d
  | .lineSet => takeLineSet p d
  | .lineHold => takeLineHold p d
  | .lineUnhold => takeLineUnhold p d
  | .lineQuery => takeLineQuery p d
  | .inputConfig => takeInputConfig p d
  | .inputQuery => takeInputQuery p d
  | .noticeAck => takeNoticeAck p d
  | .faultQuery => takeFaultQuery p d
  | .faultClear => takeFaultClear p d

/-- The kind byte of a reply: the request's code plus 80h (R189). -/
def Request.replyCode (r : Request) : Byte := r.code + 0x80

/-- The frame of an answer to a frame whose kind names no request (R190). -/
def unknownReply (f : Frame) : Frame where
  kind := 0xFF
  tag := f.tag
  payload := [Status.unknownRequest.code, f.kind]

/-- The effect of a frame the dispatcher takes, with its reply (R177, R178). -/
def answer (f : Frame) (d : Device) : Device × Frame :=
  match Request.ofCode f.kind with
  | some r =>
    let taken := takeRequest r f.payload d
    (taken.1, { kind := r.replyCode, tag := f.tag, payload := taken.2 })
  | none =>
    (d.setCounters { d.link.counters with unknownRequest := addStop16 d.link.counters.unknownRequest 1 },
      unknownReply f)

/-- A reply is placed at the end of the reply queue (R177). -/
def Device.queueReply (r : Frame) (d : Device) : Device :=
  { d with link := { d.link with replyQueue := d.link.replyQueue ++ [r] } }

/-- A frame is taken: its effect, then its reply (R176, R177). -/
def Device.takeFrame (f : Frame) (d : Device) : Device :=
  let res := answer f d
  res.1.queueReply res.2

/-! ### Transmit arbiter (R181) -/

/-- The arbiter's choice: where the transmitter is free, the oldest reply, or else, with no restart pending, a notice
(R181, R185). -/
def Device.arbitrate (d : Device) : Device :=
  match d.link.transmitting with
  | some _ => d
  | none =>
    match d.link.replyQueue with
    | r :: rest => ({ d with link := { d.link with replyQueue := rest } } : Device).transmit r
    | [] => if d.link.restartPending then d else d.sendNotice

/-- The dispatcher takes frames in turn, oldest first, for as long as it may: a frame waits, the reply queue has room and
no restart is pending (R176). Each is taken whole and its reply queued; the arbiter then begins the oldest reply where
the transmitter is free, which makes room at that instant (R180, R181). `fuel` bounds the number of frames taken. -/
def dispatchFrames : Nat → Device → Device
  | 0, d => d
  | fuel + 1, d =>
    match d.link.receiveQueue with
    | [] => d
    | f :: rest =>
      if d.link.replyQueue.length < Config.replyCapacity ∧ d.link.restartPending = false then
        dispatchFrames fuel
          ((({ d with link := { d.link with receiveQueue := rest } } : Device).takeFrame f).arbitrate)
      else d

/-- The dispatcher takes every frame it may (R176). -/
def Device.dispatch (d : Device) : Device := dispatchFrames d.link.receiveQueue.length d

/-- The link port's own work at the end of an event: the arbiter chooses (R158, R181), and the dispatcher takes the
frames that a reply's leaving made room for (R176, R180). -/
def Device.pump (d : Device) : Device := d.arbitrate.dispatch

/-! ### Reception (R170 to R174) -/

/-- A good frame reaches the receive queue (R174): discarded while a restart is pending, counted as overrun where 4
frames wait, else queued at the end; then the dispatcher takes it where it may (R176). The receive assembly is not
touched: a request command given while it is ASSEMBLING leaves it ASSEMBLING with its bytes (DESIGN CHOICE, log
entry 25). -/
def Device.deliverFrame (f : Frame) (d : Device) : Device :=
  if d.link.restartPending then d
  else if d.link.receiveQueue.length < Config.receiveCapacity then
    ({ d with link := { d.link with receiveQueue := d.link.receiveQueue ++ [f] } } : Device).dispatch
  else d.setCounters { d.link.counters with overrun := addStop16 d.link.counters.overrun 1 }

def Device.setAssembly (a : Assembly) (d : Device) : Device := { d with link := { d.link with assembly := a } }

/-- The last byte of a frame has been received: its CRC decides (R172). `got` is everything after the start byte. -/
def Device.completeFrame (got : List Byte) (d : Device) : Device :=
  let covered := got.take (byteAt got 0 + 3)
  let d := d.setAssembly .hunting
  if got.drop (byteAt got 0 + 3) = beBytes 2 (crc16 covered).toNat then
    d.deliverFrame { kind := byte (byteAt got 1), tag := byte (byteAt got 2), payload := covered.drop 3 }
  else d.setCounters { d.link.counters with badCrc := addStop16 d.link.counters.badCrc 1 }

/-- One byte is received (R170 to R174). A frame is complete when length + 5 bytes stand after its start byte. -/
def Device.receiveByte (b : Byte) (d : Device) : Device :=
  match d.link.assembly with
  | .hunting =>
    if b = 0xC3 then d.setAssembly (.assembling [])
    else d.setCounters { d.link.counters with noise := addStop16 d.link.counters.noise 1 }
  | .assembling [] =>
    if Config.maxPayload < b.toNat then
      (d.setAssembly .hunting).setCounters
        { d.link.counters with badLength := addStop16 d.link.counters.badLength 1 }
    else d.setAssembly (.assembling [b])
  | .assembling (len :: more) =>
    let got := len :: more ++ [b]
    if got.length = len.toNat + 5 then d.completeFrame got else d.setAssembly (.assembling got)

/-- A gap of more than 5 ms abandons a frame being assembled; in HUNTING no gap is measured (R173). -/
def Device.gapTimeout (d : Device) : Device :=
  match d.link.assembly with
  | .hunting => d
  | .assembling _ =>
    (d.setAssembly .hunting).setCounters { d.link.counters with gap := addStop16 d.link.counters.gap 1 }

end Sys2Proof.Machine
end

