-- ==== Sys2Proof/Machine/Resets.lean ====
section
/-! DEFINITION. The three resets (R17, R18, R42, R85, R103, R115, R116, R119, R138, R151, R166 to R168, R185 to R187), and
the end of a frame on TXD, which begins one where the frame is the RESTART reply (R180, R185). -/

namespace Sys2Proof.Machine

/-- The fault record at the end of a reset (R115). -/
def FaultRecord.afterReset (f : FaultRecord) (cause : ResetCause) : FaultRecord :=
  match cause with
  | .powerOn => FaultRecord.powerOn
  | .pin => { f with lastCause := .pin, generation := incWrap16 f.generation }
  | .restart => { f with lastCause := .restart, generation := incWrap16 f.generation }

/-- The end of a reset: the fault record is set (R115), every block has its reset values, the inputs and SPD are sampled
(R140, R168), the STARTED notice is appended (R167) and its first send begins. -/
def Device.endReset (cause : ResetCause) (pins : BitVec 8) (spd : Level) (d : Device) : Device :=
  let fault := d.fault.afterReset cause
  ((Device.initial (firstSamples pins) spd fault).notify (.started fault.lastCause fault.generation)).pump

/-- An input line while a reset is in progress: every field at its reset value but the levels, which the first sample at
the end of the reset sets (R151; log entry 13). -/
def InputRec.heldReset (i : InputRec) : InputRec := { i with run := 0, width := 2, role := .none, edges := 0 }

/-- A reset begins: every block but the fault record is at its reset values, elapsed time stands at 0 and the link is
stopped (R17, R116, R138, R185, R187). The levels of the inputs and of SPD stay those last sampled until its end (log
entry 13). -/
def Device.holdReset (cause : ResetCause) (d : Device) : Device :=
  { Device.initial (d.inputs.map InputRec.heldReset) d.link.spd d.fault with mode := .held cause }

/-- The frame in transmission is the reply of the accepted RESTART: the restart is pending, no reply waits behind it and
it is of RESTART's kind (R185). -/
def Device.restartReplySending (d : Device) : Bool :=
  match d.link.transmitting with
  | some f => d.link.restartPending && d.link.replyQueue.isEmpty && f.kind == Request.restart.replyCode
  | none => false

/-- The last stop bit of the frame in transmission ends. Where it ends the RESTART reply the reset begins at that instant
(R185); else the transmitter is free, and the arbiter and the dispatcher go on (R176, R180, R181). With the transmitter
free no frame ends. -/
def Device.frameSent (d : Device) : Device :=
  match d.link.transmitting with
  | some _ =>
    if d.restartReplySending then d.holdReset .restart
    else ({ d with link := { d.link with transmitting := none } } : Device).pump
  | none => d

/-- The reset with cause RESTART, to its end (R185): of the reset in progress, or from the end of the RESTART reply that
the transmitter carries. Elsewhere there is none (log entries 4 and 19). -/
def Device.restartReset (pins : BitVec 8) (spd : Level) (d : Device) : Device :=
  match d.mode with
  | .held .restart => d.endReset .restart pins spd
  | .running => if d.restartReplySending then d.endReset .restart pins spd else d
  | .held .pin => d
  | .held .powerOn => d

/-- RST_N goes LOW: a PIN reset begins (R116, R138). A reset that RST_N holds already goes on. A RESTART reset in progress
has taken place: its cause is recorded, and the PIN reset is the second of two (R116; log entry 19). -/
def Device.assertReset (d : Device) : Device :=
  match d.mode with
  | .running => d.holdReset .pin
  | .held .restart => ({ d with fault := d.fault.afterReset .restart } : Device).holdReset .pin
  | .held .pin => d
  | .held .powerOn => d

/-- RST_N returns HIGH: the reset it held ends, with its one cause (R115, R116). -/
def Device.releaseReset (pins : BitVec 8) (spd : Level) (d : Device) : Device :=
  match d.mode with
  | .held .pin => d.endReset .pin pins spd
  | .held .powerOn => d.endReset .powerOn pins spd
  | .held .restart => d
  | .running => d

/-- Supply is applied (R116): with RST_N HIGH the power-on reset runs to its end; with RST_N LOW it ends when RST_N
returns HIGH, and is the one reset. -/
def Device.applySupply (rstN : Level) (pins : BitVec 8) (spd : Level) (d : Device) : Device :=
  match rstN with
  | .high => d.endReset .powerOn pins spd
  | .low =>
    { Device.initial (Vector.replicate 8 (InputRec.default .low)) .low FaultRecord.powerOn with mode := .held .powerOn }

end Sys2Proof.Machine
end

