-- ==== Sys2Proof/Machine/Engine.lean ====
section
/-! DEFINITION. The expiry engine (R11 to R14), the tick with its sample, and what the device does of itself while no
command waits. -/

namespace Sys2Proof.Machine

/-- The owner of an entry that has been taken off the list does its work (R11). -/
def Device.ownerWork (e : Entry) (d : Device) : Device :=
  match e.owner with
  | .timer t => (d.expireTimer t e.due false).drainPastDue
  | .watch w => d.watchDeadline w
  | .pulse n => d.endPulse n
  | .rstoPulse => d
  | .resend => d.resendDeadline

/-- The engine hands an entry over to its owner, whose work is whole; then the link port goes on with what that work
left to send (R11, R158, R181). -/
def Device.handOver (e : Entry) (d : Device) : Device := ((d.takeOwner e.owner).ownerWork e).pump

/-- Every hand-over due at this instant, in list order (R11); no owner is handed over twice (R14), so `fuel` need not
exceed the number of owners. -/
def finishInstant : Nat → Device → Device
  | 0, d => d
  | fuel + 1, d =>
    match d.headDue with
    | some e => finishInstant fuel (d.handOver e)
    | none => d

/-- A tick of the time base (R1): elapsed time increases by 1, or holds at its end; the sample of the tick is owed
(R140). A new instant forgets which owners were handed over at the last (R14). -/
def Device.tick (d : Device) : Device :=
  if d.elapsed < Config.maxElapsed then { d with elapsed := d.elapsed + 1, handed := [], sampleOwed := true }
  else { d with sampleOwed := true }

/-- The sample of all eight lines (R140), line by line, each edge an event of its own (R142). -/
def Device.sampleAll (levels : BitVec 8) (order : List (Fin 8)) (d : Device) : Device :=
  (lineOrder order).foldl (fun d n => (d.sampleLine n (pinLevel levels n)).pump) { d with sampleOwed := false }

/-- The levels of the last sample, which the pins are taken to hold until a sample says otherwise (log entry 2). -/
def Device.rawLevels (d : Device) : BitVec 8 :=
  setOf (fun n => match d.inputs[n].raw with
    | .high => true
    | .low => false)

/-- What the device does of itself (log entry 2): the head of the list is handed over when it is due (R11); else a
sample that the present tick owes is taken (R140); else the next tick comes (R1). In a reset that RST_N holds it
waits; a RESTART reset in progress comes to its end, with the pins at the levels last sampled (R185, log entry 19). -/
def Device.idle (d : Device) : Device :=
  match d.mode with
  | .held .pin => d
  | .held .powerOn => d
  | .held .restart => d.endReset .restart d.rawLevels d.link.spd
  | .running =>
    match d.headDue with
    | some e => d.handOver e
    | none => if d.sampleOwed then d.sampleAll d.rawLevels [] else d.tick

/-- A sample of the input lines (R140): that of the present tick, if it is owed; else time goes on to the next tick,
after every hand-over still due at this instant (R11), and the sample is that tick's (log entry 2). -/
def Device.inputSample (levels : BitVec 8) (order : List (Fin 8)) (d : Device) : Device :=
  (if d.sampleOwed then d else (finishInstant Config.deadlineCapacity d).tick).sampleAll levels order

/-- The watch whose entry this is, in the state given. -/
def Device.entryWatchIn (d : Device) (st : WatchState) (e : Entry) : Bool :=
  match e.owner with
  | .watch w =>
    match d.watches[w] with
    | some r => r.state == st
    | none => false
  | .timer _ => false
  | .pulse _ => false
  | .rstoPulse => false
  | .resend => false

/-- The hand-over of the head of the list, where it is due and of the kind named; otherwise there is no such event
(R11; log entry 4). -/
def Device.expiryOf (want : Entry → Bool) (d : Device) : Device :=
  match d.headDue with
  | some e => if want e then d.handOver e else d
  | none => d

def Entry.ofTimer (e : Entry) : Bool :=
  match e.owner with
  | .timer _ => true
  | .watch _ => false
  | .pulse _ => false
  | .rstoPulse => false
  | .resend => false

def Entry.ofPulse (e : Entry) : Bool :=
  match e.owner with
  | .pulse _ => true
  | .timer _ => false
  | .watch _ => false
  | .rstoPulse => false
  | .resend => false

end Sys2Proof.Machine
end

