-- ==== Sys2Proof/Machine/Requests.lean ====
section
/-! DEFINITION. The meaning of each request command: a good frame of its kind, with the tag and payload given, reaches the
receive queue and is taken where the dispatcher may take it (R174, R176; log entry 9). What a request does when it is
taken is its `take...` definition. -/

namespace Sys2Proof.Machine

/-- A command acts on the device alone; while a reset is in progress, no byte is received, no frame sent, no sample taken and
no time passes, so that no command but the resets has an effect (R17, R138, R140, R185, R187). -/
def whileRunning (f : Device → Device) (s : State) : Host.Outcome State Fault Refusal :=
  match s.mode with
  | .running => .next { s with toDevice := f s.toDevice }
  | .held _ => .next s

/-- A good request frame of a kind arrives. -/
def request (r : Request) (tag : Byte) (payload : List Byte) (s : State) : Host.Outcome State Fault Refusal :=
  whileRunning (Device.deliverFrame { kind := r.code, tag := tag, payload := payload }) s

/-- IDENTIFY (R182). -/
def execIdentify (tag : Byte) (payload : List Byte) (s : State) : Host.Outcome State Fault Refusal :=
  request .identify tag payload s

/-- LINK_QUERY (R183). -/
def execLinkQuery (tag : Byte) (payload : List Byte) (s : State) : Host.Outcome State Fault Refusal :=
  request .linkQuery tag payload s

/-- RESTART (R184). -/
def execRestart (tag : Byte) (payload : List Byte) (s : State) : Host.Outcome State Fault Refusal :=
  request .restart tag payload s

/-- TIME_SET (R4). -/
def execTimeSet (tag : Byte) (payload : List Byte) (s : State) : Host.Outcome State Fault Refusal :=
  request .timeSet tag payload s

/-- TIME_GET (R3). -/
def execTimeGet (tag : Byte) (payload : List Byte) (s : State) : Host.Outcome State Fault Refusal :=
  request .timeGet tag payload s

/-- SCHEDULE_QUERY (R16). -/
def execScheduleQuery (tag : Byte) (payload : List Byte) (s : State) : Host.Outcome State Fault Refusal :=
  request .scheduleQuery tag payload s

/-- TIMER_DEFINE (R29). -/
def execTimerDefine (tag : Byte) (payload : List Byte) (s : State) : Host.Outcome State Fault Refusal :=
  request .timerDefine tag payload s

/-- TIMER_START (R31). -/
def execTimerStart (tag : Byte) (payload : List Byte) (s : State) : Host.Outcome State Fault Refusal :=
  request .timerStart tag payload s

/-- TIMER_STOP (R34). -/
def execTimerStop (tag : Byte) (payload : List Byte) (s : State) : Host.Outcome State Fault Refusal :=
  request .timerStop tag payload s

/-- TIMER_PAUSE (R37). -/
def execTimerPause (tag : Byte) (payload : List Byte) (s : State) : Host.Outcome State Fault Refusal :=
  request .timerPause tag payload s

/-- TIMER_RESUME (R39). -/
def execTimerResume (tag : Byte) (payload : List Byte) (s : State) : Host.Outcome State Fault Refusal :=
  request .timerResume tag payload s

/-- TIMER_FREE (R40). -/
def execTimerFree (tag : Byte) (payload : List Byte) (s : State) : Host.Outcome State Fault Refusal :=
  request .timerFree tag payload s

/-- TIMER_QUERY (R41). -/
def execTimerQuery (tag : Byte) (payload : List Byte) (s : State) : Host.Outcome State Fault Refusal :=
  request .timerQuery tag payload s

/-- WATCH_DEFINE (R69). -/
def execWatchDefine (tag : Byte) (payload : List Byte) (s : State) : Host.Outcome State Fault Refusal :=
  request .watchDefine tag payload s

/-- WATCH_START (R70). -/
def execWatchStart (tag : Byte) (payload : List Byte) (s : State) : Host.Outcome State Fault Refusal :=
  request .watchStart tag payload s

/-- CHECK_PREP (R72). -/
def execCheckPrep (tag : Byte) (payload : List Byte) (s : State) : Host.Outcome State Fault Refusal :=
  request .checkPrep tag payload s

/-- CHECK_CONF (R72). -/
def execCheckConf (tag : Byte) (payload : List Byte) (s : State) : Host.Outcome State Fault Refusal :=
  request .checkConf tag payload s

/-- WATCH_RETUNE (R80). -/
def execWatchRetune (tag : Byte) (payload : List Byte) (s : State) : Host.Outcome State Fault Refusal :=
  request .watchRetune tag payload s

/-- WATCH_RETIRE (R82). -/
def execWatchRetire (tag : Byte) (payload : List Byte) (s : State) : Host.Outcome State Fault Refusal :=
  request .watchRetire tag payload s

/-- WATCH_RELEASE (R96). -/
def execWatchRelease (tag : Byte) (payload : List Byte) (s : State) : Host.Outcome State Fault Refusal :=
  request .watchRelease tag payload s

/-- WATCH_QUERY (R84). -/
def execWatchQuery (tag : Byte) (payload : List Byte) (s : State) : Host.Outcome State Fault Refusal :=
  request .watchQuery tag payload s

/-- LINE_CONFIG (R132). -/
def execLineConfig (tag : Byte) (payload : List Byte) (s : State) : Host.Outcome State Fault Refusal :=
  request .lineConfig tag payload s

/-- LINE_SET (R130). -/
def execLineSet (tag : Byte) (payload : List Byte) (s : State) : Host.Outcome State Fault Refusal :=
  request .lineSet tag payload s

/-- LINE_HOLD (R133). -/
def execLineHold (tag : Byte) (payload : List Byte) (s : State) : Host.Outcome State Fault Refusal :=
  request .lineHold tag payload s

/-- LINE_UNHOLD (R134). -/
def execLineUnhold (tag : Byte) (payload : List Byte) (s : State) : Host.Outcome State Fault Refusal :=
  request .lineUnhold tag payload s

/-- LINE_QUERY (R135). -/
def execLineQuery (tag : Byte) (payload : List Byte) (s : State) : Host.Outcome State Fault Refusal :=
  request .lineQuery tag payload s

/-- INPUT_CONFIG (R148). -/
def execInputConfig (tag : Byte) (payload : List Byte) (s : State) : Host.Outcome State Fault Refusal :=
  request .inputConfig tag payload s

/-- INPUT_QUERY (R150). -/
def execInputQuery (tag : Byte) (payload : List Byte) (s : State) : Host.Outcome State Fault Refusal :=
  request .inputQuery tag payload s

/-- NOTICE_ACK (R162). -/
def execNoticeAck (tag : Byte) (payload : List Byte) (s : State) : Host.Outcome State Fault Refusal :=
  request .noticeAck tag payload s

/-- FAULT_QUERY (R117). -/
def execFaultQuery (tag : Byte) (payload : List Byte) (s : State) : Host.Outcome State Fault Refusal :=
  request .faultQuery tag payload s

/-- FAULT_CLEAR (R118). -/
def execFaultClear (tag : Byte) (payload : List Byte) (s : State) : Host.Outcome State Fault Refusal :=
  request .faultClear tag payload s

/-- UNKNOWN_REQUEST (R178): a good frame of another kind code. -/
def execUnknownRequest (kind tag : Byte) (payload : List Byte) (s : State) : Host.Outcome State Fault Refusal :=
  whileRunning (Device.deliverFrame { kind := kind, tag := tag, payload := payload }) s

end Sys2Proof.Machine
end

