-- ==== Sys2Proof/Machine/Events.lean ====
section
/-! DEFINITION. The meaning of each event command: the hand-overs of the expiry engine, the sample of the input lines, the
bytes and gaps on RXD, the end of a frame on TXD, and the resets. -/

namespace Sys2Proof.Machine

/-- TIMER_EXPIRY (R44): the on-time hand-over of a timer's entry. -/
def execTimerExpiry (s : State) : Host.Outcome State Fault Refusal := whileRunning (Device.expiryOf Entry.ofTimer) s

/-- RENEWAL_DEADLINE_EXPIRY (R87): the hand-over of a RUNNING watch's entry. -/
def execRenewalDeadlineExpiry (s : State) : Host.Outcome State Fault Refusal :=
  whileRunning (fun d => d.expiryOf (d.entryWatchIn .running)) s

/-- GRACE_DEADLINE_EXPIRY (R90): the hand-over of a WARN watch's entry. -/
def execGraceDeadlineExpiry (s : State) : Host.Outcome State Fault Refusal :=
  whileRunning (fun d => d.expiryOf (d.entryWatchIn .warn)) s

/-- SETTLE_DEADLINE_EXPIRY (R100): the hand-over of a RELEASING watch's entry. -/
def execSettleDeadlineExpiry (s : State) : Host.Outcome State Fault Refusal :=
  whileRunning (fun d => d.expiryOf (d.entryWatchIn .releasing)) s

/-- RETRIP_DEADLINE_EXPIRY (R110): the hand-over of TRIPPED watch 0's entry. -/
def execRetripDeadlineExpiry (s : State) : Host.Outcome State Fault Refusal :=
  whileRunning (fun d => d.expiryOf (fun e => e.owner == .watch 0 && d.entryWatchIn .tripped e)) s

/-- PULSE_END (R127). -/
def execPulseEnd (s : State) : Host.Outcome State Fault Refusal := whileRunning (Device.expiryOf Entry.ofPulse) s

/-- RSTO_PULSE_END (R136). -/
def execRstoPulseEnd (s : State) : Host.Outcome State Fault Refusal :=
  whileRunning (Device.expiryOf (fun e => e.owner == .rstoPulse)) s

/-- RESEND_DEADLINE_EXPIRY (R161). -/
def execResendDeadlineExpiry (s : State) : Host.Outcome State Fault Refusal :=
  whileRunning (Device.expiryOf (fun e => e.owner == .resend)) s

/-- INPUT_SAMPLE (R140 to R142). -/
def execInputSample (levels : BitVec 8) (order : List (Fin 8)) (s : State) : Host.Outcome State Fault Refusal :=
  whileRunning (Device.inputSample levels order) s

/-- FRAME_RECEIVED (R172, R174): the byte is the second CRC byte of the frame being assembled; the receive assembly
finds what it is (log entry 10). -/
def execFrameReceived (b : Byte) (s : State) : Host.Outcome State Fault Refusal := whileRunning (Device.receiveByte b) s

/-- NOISE_BYTE (R170). -/
def execNoiseByte (b : Byte) (s : State) : Host.Outcome State Fault Refusal := whileRunning (Device.receiveByte b) s

/-- BAD_LENGTH_ABANDON (R171). -/
def execBadLengthAbandon (b : Byte) (s : State) : Host.Outcome State Fault Refusal := whileRunning (Device.receiveByte b) s

/-- GAP_TIMEOUT (R173). -/
def execGapTimeout (s : State) : Host.Outcome State Fault Refusal := whileRunning Device.gapTimeout s

/-- TRANSMIT_COMPLETE (R180, R185). -/
def execTransmitComplete (s : State) : Host.Outcome State Fault Refusal := whileRunning Device.frameSent s

/-- RESTART_RESET (R185). -/
def execRestartReset (pins : BitVec 8) (spd : Level) (s : State) : Host.Outcome State Fault Refusal :=
  .next { s with toDevice := s.toDevice.restartReset pins spd }

/-- POWER_ON (R115, R116), whatever the device held before. -/
def execPowerOn (rstN : Level) (pins : BitVec 8) (spd : Level) (s : State) : Host.Outcome State Fault Refusal :=
  .next { s with toDevice := s.toDevice.applySupply rstN pins spd }

/-- RST_N_ASSERT (R116, R138). -/
def execRstNAssert (s : State) : Host.Outcome State Fault Refusal := .next { s with toDevice := s.toDevice.assertReset }

/-- RST_N_RELEASE (R115, R116). -/
def execRstNRelease (pins : BitVec 8) (spd : Level) (s : State) : Host.Outcome State Fault Refusal :=
  .next { s with toDevice := s.toDevice.releaseReset pins spd }

/-- START_BYTE (R170): a byte equal to C3h. -/
def execStartByte (s : State) : Host.Outcome State Fault Refusal := whileRunning (Device.receiveByte 0xC3) s

/-- FRAME_CONTENT_BYTE (R173): a byte within a frame. -/
def execFrameContentByte (b : Byte) (s : State) : Host.Outcome State Fault Refusal := whileRunning (Device.receiveByte b) s

end Sys2Proof.Machine
end

