-- ==== Sys2Proof/Machine/Dispatch.lean ====
section
/-! DEFINITION. One arm per command. -/

namespace Sys2Proof.Machine

def exec (i : Instr) (s : State) : Host.Outcome State Fault Refusal :=
  match i with
  | .identify tag payload => Sys2Proof.Machine.execIdentify tag payload s
  | .linkQuery tag payload => Sys2Proof.Machine.execLinkQuery tag payload s
  | .restart tag payload => Sys2Proof.Machine.execRestart tag payload s
  | .timeSet tag payload => Sys2Proof.Machine.execTimeSet tag payload s
  | .timeGet tag payload => Sys2Proof.Machine.execTimeGet tag payload s
  | .scheduleQuery tag payload => Sys2Proof.Machine.execScheduleQuery tag payload s
  | .timerDefine tag payload => Sys2Proof.Machine.execTimerDefine tag payload s
  | .timerStart tag payload => Sys2Proof.Machine.execTimerStart tag payload s
  | .timerStop tag payload => Sys2Proof.Machine.execTimerStop tag payload s
  | .timerPause tag payload => Sys2Proof.Machine.execTimerPause tag payload s
  | .timerResume tag payload => Sys2Proof.Machine.execTimerResume tag payload s
  | .timerFree tag payload => Sys2Proof.Machine.execTimerFree tag payload s
  | .timerQuery tag payload => Sys2Proof.Machine.execTimerQuery tag payload s
  | .watchDefine tag payload => Sys2Proof.Machine.execWatchDefine tag payload s
  | .watchStart tag payload => Sys2Proof.Machine.execWatchStart tag payload s
  | .checkPrep tag payload => Sys2Proof.Machine.execCheckPrep tag payload s
  | .checkConf tag payload => Sys2Proof.Machine.execCheckConf tag payload s
  | .watchRetune tag payload => Sys2Proof.Machine.execWatchRetune tag payload s
  | .watchRetire tag payload => Sys2Proof.Machine.execWatchRetire tag payload s
  | .watchRelease tag payload => Sys2Proof.Machine.execWatchRelease tag payload s
  | .watchQuery tag payload => Sys2Proof.Machine.execWatchQuery tag payload s
  | .lineConfig tag payload => Sys2Proof.Machine.execLineConfig tag payload s
  | .lineSet tag payload => Sys2Proof.Machine.execLineSet tag payload s
  | .lineHold tag payload => Sys2Proof.Machine.execLineHold tag payload s
  | .lineUnhold tag payload => Sys2Proof.Machine.execLineUnhold tag payload s
  | .lineQuery tag payload => Sys2Proof.Machine.execLineQuery tag payload s
  | .inputConfig tag payload => Sys2Proof.Machine.execInputConfig tag payload s
  | .inputQuery tag payload => Sys2Proof.Machine.execInputQuery tag payload s
  | .noticeAck tag payload => Sys2Proof.Machine.execNoticeAck tag payload s
  | .faultQuery tag payload => Sys2Proof.Machine.execFaultQuery tag payload s
  | .faultClear tag payload => Sys2Proof.Machine.execFaultClear tag payload s
  | .unknownRequest kind tag payload => Sys2Proof.Machine.execUnknownRequest kind tag payload s
  | .timerExpiry => Sys2Proof.Machine.execTimerExpiry s
  | .renewalDeadlineExpiry => Sys2Proof.Machine.execRenewalDeadlineExpiry s
  | .graceDeadlineExpiry => Sys2Proof.Machine.execGraceDeadlineExpiry s
  | .settleDeadlineExpiry => Sys2Proof.Machine.execSettleDeadlineExpiry s
  | .retripDeadlineExpiry => Sys2Proof.Machine.execRetripDeadlineExpiry s
  | .pulseEnd => Sys2Proof.Machine.execPulseEnd s
  | .rstoPulseEnd => Sys2Proof.Machine.execRstoPulseEnd s
  | .resendDeadlineExpiry => Sys2Proof.Machine.execResendDeadlineExpiry s
  | .inputSample levels order => Sys2Proof.Machine.execInputSample levels order s
  | .frameReceived b => Sys2Proof.Machine.execFrameReceived b s
  | .noiseByte b => Sys2Proof.Machine.execNoiseByte b s
  | .badLengthAbandon b => Sys2Proof.Machine.execBadLengthAbandon b s
  | .gapTimeout => Sys2Proof.Machine.execGapTimeout s
  | .transmitComplete => Sys2Proof.Machine.execTransmitComplete s
  | .restartReset pins spd => Sys2Proof.Machine.execRestartReset pins spd s
  | .powerOn rstN pins spd => Sys2Proof.Machine.execPowerOn rstN pins spd s
  | .rstNAssert => Sys2Proof.Machine.execRstNAssert s
  | .rstNRelease pins spd => Sys2Proof.Machine.execRstNRelease pins spd s
  | .startByte => Sys2Proof.Machine.execStartByte s
  | .frameContentByte b => Sys2Proof.Machine.execFrameContentByte b s

end Sys2Proof.Machine
end

