-- ==== Sys2Proof/Safety.lean ====
section
/-! DEFINITION. The terms the claims use: a request as a command and its frame length (Tables 11-2, 11-5, 11-7), a device
ready to take a request, the reply it gives, the device right after a reset, the effects of an expiry and of a trigger
spelled out, and the invariants of its blocks. -/

namespace Sys2Proof.Machine

/-! ### Requests as commands -/

/-- The command that a frame of a request's kind is. -/
def Request.command (r : Request) (tag : Byte) (p : List Byte) : Instr :=
  match r with
  | .identify => .identify tag p
  | .linkQuery => .linkQuery tag p
  | .restart => .restart tag p
  | .timeSet => .timeSet tag p
  | .timeGet => .timeGet tag p
  | .scheduleQuery => .scheduleQuery tag p
  | .timerDefine => .timerDefine tag p
  | .timerStart => .timerStart tag p
  | .timerStop => .timerStop tag p
  | .timerPause => .timerPause tag p
  | .timerResume => .timerResume tag p
  | .timerFree => .timerFree tag p
  | .timerQuery => .timerQuery tag p
  | .watchDefine => .watchDefine tag p
  | .watchStart => .watchStart tag p
  | .checkPrep => .checkPrep tag p
  | .checkConf => .checkConf tag p
  | .watchRetune => .watchRetune tag p
  | .watchRetire => .watchRetire tag p
  | .watchRelease => .watchRelease tag p
  | .watchQuery => .watchQuery tag p
  | .lineConfig => .lineConfig tag p
  | .lineSet => .lineSet tag p
  | .lineHold => .lineHold tag p
  | .lineUnhold => .lineUnhold tag p
  | .lineQuery => .lineQuery tag p
  | .inputConfig => .inputConfig tag p
  | .inputQuery => .inputQuery tag p
  | .noticeAck => .noticeAck tag p
  | .faultQuery => .faultQuery tag p
  | .faultClear => .faultClear tag p

/-- The frame that a request command delivers. -/
def Request.frame (r : Request) (tag : Byte) (p : List Byte) : Frame where
  kind := r.code
  tag := tag
  payload := p

/-- The payload length suits the kind (Table 11-2, with the selectors and flags of R188 and R191). -/
def Request.lengthFits (r : Request) (p : List Byte) : Bool :=
  match r with
  | .identify => p.length == 0
  | .restart => p.length == 0
  | .timeGet => p.length == 0
  | .faultQuery => p.length == 0
  | .faultClear => p.length == 0
  | .timeSet => p.length == 6
  | .lineSet => p.length == 2
  | .lineConfig => p.length == 3
  | .watchDefine => p.length == 13
  | .timerDefine =>
    4 ≤ p.length &&
      let flags := (p.getD 3 0).toNat
      p.length == 9 + (if flags.testBit 0 then 1 else 0) + (if flags.testBit 1 then 6 else 0) +
        (if flags.testBit 2 then 4 else 0) + (if flags.testBit 3 then 1 else 0) + (if flags.testBit 4 then 1 else 0)
  | .watchRetune => 1 ≤ p.length && p.length == (if p.getD 0 0 = 0 then 4 else 10)
  | .inputConfig => 2 ≤ p.length && p.length == (if p.getD 1 0 = 2 then 6 else 3)
  | .linkQuery => p.length == 1
  | .scheduleQuery => p.length == 1
  | .timerStart => p.length == 1
  | .timerStop => p.length == 1
  | .timerPause => p.length == 1
  | .timerResume => p.length == 1
  | .timerFree => p.length == 1
  | .timerQuery => p.length == 1
  | .watchStart => p.length == 1
  | .checkPrep => p.length == 1
  | .checkConf => p.length == 1
  | .watchRetire => p.length == 1
  | .watchRelease => p.length == 1
  | .watchQuery => p.length == 1
  | .lineHold => p.length == 1
  | .lineUnhold => p.length == 1
  | .lineQuery => p.length == 1
  | .inputQuery => p.length == 1
  | .noticeAck => p.length == 1

/-- A refusal of the kind echoes the first payload byte (the last column of Table 11-2). -/
def Request.echoes (r : Request) : Bool :=
  decide (r ∉ [.identify, .linkQuery, .restart, .timeSet, .timeGet, .scheduleQuery, .lineHold, .lineUnhold, .noticeAck,
    .faultQuery, .faultClear])

/-- The statuses that refuse a request and leave the device as it was (R177): all but acceptance and the two outcomes of
the phase rule, which moves the phase. -/
def Status.refuses (st : Status) : Bool := decide (st ∉ [.ok, .adjusted, .outOfStep, .early])

/-! ### Taking a request -/

/-- A request that arrives now is taken at once (R176): the device runs, no frame waits, the reply queue has room and no
restart is pending. -/
abbrev State.ready (s : State) : Prop :=
  s.mode = .running ∧ s.link.receiveQueue = [] ∧ s.link.replyQueue.length < 4 ∧ s.link.restartPending = false

/-- The link port when a reply has been queued and the arbiter has chosen (R177, R181): the oldest reply begins where the
transmitter is free. -/
def LinkPort.answered (l : LinkPort) (r : Frame) : LinkPort :=
  match l.transmitting, l.replyQueue with
  | none, [] => { l with transmitting := some r }
  | none, q :: rest => { l with transmitting := some q, replyQueue := rest ++ [r] }
  | some _, q => { l with replyQueue := q ++ [r] }

/-- The state after a request has been taken: the device `d` that its effect leaves, with the reply of the request's
kind and tag and of the payload given. -/
def State.answers (s : State) (d : Device) (r : Request) (tag : Byte) (payload : List Byte) : State :=
  { s with toDevice :=
      { d with link := d.link.answered { kind := r.replyCode, tag := tag, payload := payload } } }

/-- The state `s` with another device. -/
def State.become (s : State) (d : Device) : State := { s with toDevice := d }

/-! ### The device right after a reset -/

/-- The device at the end of a reset whose first samples read `pins` and `spd`, with the fault record given: every block
as its section gives it, the STARTED notice on its way (R167). -/
def freshDevice (pins : BitVec 8) (spd : Level) (fault : FaultRecord) : Device where
  mode := .running
  elapsed := 0
  wallOffset := 0
  deadlines :=
    [{ owner := .resend, due := 250, wall := none, pos := 2, pastDue := false },
     { owner := .watch 0, due := 4000, wall := none, pos := 1, pastDue := false }]
  handed := []
  timers := Vector.replicate 24 none
  watches := Vector.ofFn (fun w => if w = 0 then
    some { state := .running, source := .link, phase := .opened, period := 4000, grace := 4000, minInterval := 0,
           settle := 100, holdSet := 0, lastRenewal := some 0, recovery := 0, renewals := 0, warns := 0,
           earlyFaults := 0, outOfStep := 0, trips := 0 }
    else none)
  linkWatch := { periodCode := 2, rstoWidth := 50, consecutive := 0, lockout := false }
  lines := Vector.replicate 8
    { restLevel := .low, safeLevel := .low, shadow := .rest, binding := none, watchHolders := 0, hostHolder := false,
      pulseEnd := none }
  inputs := Vector.ofFn (fun n =>
    { raw := if pins.getLsbD n then .high else .low, filtered := if pins.getLsbD n then .high else .low, run := 0,
      width := 2, role := .none, edges := 0 })
  sampleOwed := false
  notices :=
    { queue := [{ body := .started fault.lastCause fault.generation, instant := 0, lostBefore := 0,
                  state := .sent 0 false, attempts := 1 }]
      pendingLoss := 0
      nextSeq := 1 }
  link :=
    { assembly := .hunting
      receiveQueue := []
      replyQueue := []
      transmitting := some
        { kind := 0x60, tag := 0x00,
          payload := [0x01, 0x00, 0x01, 0, 0, 0, 0, 0, 0, 0x00, 0xFF, 0x00, 0x00, fault.lastCause.code] ++
            beBytes 2 fault.generation }
      counters := { noise := 0, badLength := 0, badCrc := 0, gap := 0, overrun := 0, unknownRequest := 0 }
      restartPending := false
      spd := spd }
  fault := fault

/-! ### Effects spelled out -/

/-- A line after an output effect taken at `now` (R52, R53, R125). -/
def LineRec.afterEffect (now : Nat) (eff : Effect) (l : LineRec) : LineRec :=
  match eff with
  | .set => { l with shadow := .active }
  | .clear => { l with shadow := .rest }
  | .toggle => { l with shadow := if l.shadow = .rest then .active else .rest }
  | .pulse width => { l with shadow := .active, pulseEnd := some (min (now + width) 281474976710655) }

/-- The actions of an expiry on the output unit and the notice queue (R44): the effect on the line, with a PULSE entry
at now + width (R52, R53), then the notice (R54). -/
def Device.actions (t : Fin 24) (r : TimerRec) (fires : Nat) (late : Bool) (missed : Nat) (d : Device) : Device :=
  let acted : Device :=
    match r.output with
    | none => d
    | some a =>
      let d' : Device := { d with lines := d.lines.set a.line (d.lines[a.line].afterEffect d.elapsed a.effect) }
      match a.effect with
      | .pulse width => d'.insertEntry (.pulse a.line) (d.elapsed + width) none
      | .set => d'
      | .clear => d'
      | .toggle => d'
  match r.notice with
  | some tag => acted.notify (.timerFired t tag fires late missed)
  | none => acted

/-- The late expiry of an ABSOLUTE timer that triggers and counts into no timer (R45 to R47, R50, R51): its entry leaves,
it counts, ONCE it goes IDLE, REPEAT it goes on at the first grid point after wall time, or IDLE where that point
exceeds 2^47 - 1. -/
def Device.expiredLate (t : Fin 24) (r : TimerRec) (d : Device) : Device :=
  let fires := (r.fires + 1) % 4294967296
  let counted := { r with fires := fires, lateCount := min (r.lateCount + 1) 65535 }
  let idle : TimerRec := { counted with state := .idle, remaining := r.period }
  let taken : Device :=
    { d with deadlines := d.deadlines.filter (fun e => e.owner ≠ .timer t), handed := .timer t :: d.handed }
  match r.mode, r.kind, r.source with
  | .repeating, .absolute due, .time sc =>
    let k := (d.elapsed + d.wallOffset - due).toNat / (r.period * sc.ms)
    let next := due + (k + 1) * (r.period * sc.ms)
    (if next ≤ 140737488355327 then
      Device.insertEntry (.timer t) (next - d.wallOffset) (some next)
        { taken with timers := d.timers.set t (some { counted with kind := .absolute next }) }
    else { taken with timers := d.timers.set t (some idle) }).actions t r fires true (min k 65535)
  | _, _, _ => ({ taken with timers := d.timers.set t (some idle) } : Device).actions t r fires true 0

/-- A trigger on timer u, by its state and source (R55, R56). -/
def Device.triggered (u : Fin 24) (d : Device) : Device :=
  match d.timers[u] with
  | none => d
  | some x =>
    let d' : Device :=
      { d with timers := d.timers.set u (some { x with state := .running, remaining := x.period }) }
    match x.state, x.kind, x.source with
    | .paused, _, _ => d
    | _, .absolute due, _ => d'.insertEntry (.timer u) (due - d.wallOffset) (some due)
    | _, .relative, .time sc => d'.insertEntry (.timer u) (d.elapsed + x.period * sc.ms) none
    | _, .relative, _ => d'

/-- A trigger with the late expiry it leads to (R55 to R57): that of an IDLE or RUNNING ABSOLUTE target whose due wall
time is not later than wall time, not handed over at this instant yet, which triggers and counts into no timer. -/
def Device.triggeredWhole (u : Fin 24) (d : Device) : Device :=
  match d.timers[u] with
  | none => d
  | some x =>
    match x.state, x.kind with
    | .paused, _ => d
    | _, .absolute due =>
      if (due : Int) - d.wallOffset ≤ d.elapsed ∧ .timer u ∉ d.handed then
        d.expiredLate u { x with state := .running, remaining := x.period }
      else d.triggered u
    | _, .relative => d.triggered u

/-- What a reply reports of a watch: id, state, phase, recovery; phase and recovery FFh for a FREE one (R74, R192). -/
def Device.checkinFields (w : Fin 16) (d : Device) : List Byte :=
  match d.watches[w] with
  | some r => [byte w, watchStateCode (some r.state), r.phase.code, byte r.recovery]
  | none => [byte w, 0x00, 0xFF, 0xFF]

/-- What the reply to a check-in that leaves the device `d` reports of watch w. Where the watch's entry is due at this
instant and its hand-over still to come, it is the record after both events (R75, R113): RUNNING has entered WARN with
the phase its source gives, WARN has tripped, TRIPPED watch 0 has retripped, RELEASING has completed its release. -/
def Device.reported (w : Fin 16) (d : Device) : List Byte :=
  match d.watches[w], d.entryOf (.watch w) with
  | some r, some e =>
    let state (st : WatchState) (phase : Phase) (recovery : Nat) : List Byte :=
      [byte w, watchStateCode (some st), phase.code, byte recovery]
    if e.due ≤ d.elapsed ∧ .watch w ∉ d.handed then
      match r.state with
      | .running =>
        state .warn
          (match r.source with
            | .link => .opened
            | .line n a => if d.inputs[n].filtered = a then .half else .opened) r.recovery
      | .warn => state .tripped r.phase 0
      | .tripped => state .tripped r.phase (if w = 0 then 0 else r.recovery)
      | .releasing => state .running r.phase 0
      | .dormant => state .dormant r.phase r.recovery
    else d.checkinFields w
  | _, _ => d.checkinFields w

/-- The device in a reset of the given cause (R17, R138, R187): elapsed time at 0, every timer FREE, the link port stopped
and empty, OUT0 to OUT7 and FAULT LOW and RSTO and TXD HIGH. -/
def Device.inResetOf (cause : ResetCause) (d : Device) : Prop :=
  d.mode = .held cause ∧ d.elapsed = 0 ∧ d.notices.queue = [] ∧ d.link.receiveQueue = [] ∧ d.link.replyQueue = [] ∧
  d.link.transmitting = none ∧ d.link.assembly = .hunting ∧ d.link.restartPending = false ∧
  (∀ x : Fin 24, d.timers[x] = none) ∧ (∀ n : Fin 8, d.outPin n = .low) ∧ d.rsto = .high ∧ d.faultPin = .low ∧
  ∀ bit, d.txd bit = .high

/-! ### Reception byte by byte -/

/-- The commands that the bytes of a frame are, in the order of transmission (Table 11-1): its start byte, its content,
its last CRC byte. -/
def Frame.receptions (f : Frame) : List Instr :=
  .startByte :: ((f.wire.drop 1).dropLast.map Instr.frameContentByte) ++ [.frameReceived (f.wire.getLastD 0)]

/-! ### Definitions as the host encodes them -/

/-- The input line that a timer source claims, if it claims one (R23). -/
def TimerSource.inputLine : TimerSource → Option (Fin 8)
  | .input n _ => some n
  | .time _ => none
  | .parent _ => none

/-- The input line that a watch source claims, if it claims one (R143). -/
def WatchSource.inputLine : WatchSource → Option (Fin 8)
  | .line n _ => some n
  | .link => none

/-- A timer definition that TIMER_DEFINE of timer t can store (Table 2-1, R24): every field in its range, the kind, source
and scale fitting one another, the counts as a fresh definition has them. -/
structure TimerRec.definable (t : Fin 24) (r : TimerRec) : Prop where
  idle : r.state = .idle
  period : 1 ≤ r.period ∧ r.period ≤ 65535
  remaining : r.remaining = r.period
  counts : r.fires = 0 ∧ r.lateCount = 0
  absolute : ∀ due, r.kind = .absolute due → due ≤ 140737488355327 ∧ ∃ sc, r.source = .time sc
  parent : ∀ p, r.source = .parent p → p ≠ t
  width : ∀ a w, r.output = some a → a.effect = .pulse w → 1 ≤ w ∧ w ≤ 65535
  trigger : ∀ u, r.trigger = some u → u ≠ t

/-- A watch definition that WATCH_DEFINE can store (R67, R69), but for its phase. -/
structure WatchRec.definable (r : WatchRec) : Prop where
  dormant : r.state = .dormant
  phase : r.phase = .opened
  period : 10 ≤ r.period ∧ r.period ≤ 60000
  grace : 10 ≤ r.grace ∧ r.grace ≤ 60000
  minInterval : r.minInterval < r.period
  settle : r.settle ≤ 10000
  lastRenewal : r.lastRenewal = none
  recovery : r.recovery = 0
  counts : r.renewals = 0 ∧ r.warns = 0 ∧ r.earlyFaults = 0 ∧ r.outOfStep = 0 ∧ r.trips = 0

/-- The payload of a WATCH_DEFINE of watch w (Table 11-5); the line and level bytes of a LINK source are sent as 00h. -/
def WatchRec.definePayload (w : Fin 16) (r : WatchRec) : List Byte :=
  [byte w] ++
  (match r.source with
    | .link => [0x00, 0x00, 0x00]
    | .line n a => [0x01, byte n, levelCode a]) ++
  beBytes 2 r.period ++ beBytes 2 r.grace ++ beBytes 2 r.minInterval ++ beBytes 2 r.settle ++ [r.holdSet]

/-! ### Invariants of the blocks -/

/-- The deadline list is in order, and no two entries share an owner or an insertion position (R7, R8). -/
def Device.listOrdered (d : Device) : Prop :=
  d.deadlines.Pairwise (fun e f => e.due < f.due ∨ (e.due = f.due ∧ e.pos < f.pos)) ∧
  (d.deadlines.map Entry.owner).Nodup ∧ (d.deadlines.map Entry.pos).Nodup

/-- No past-due hand-over is outstanding, and every absolute entry is a timer's (R7, R13, R14, R16). -/
def Device.settled (d : Device) : Prop :=
  (∀ e ∈ d.deadlines, e.pastDue = false) ∧ ∀ e ∈ d.deadlines, e.wall.isSome → ∃ t, e.owner = .timer t

/-- The notice queue holds at most 32 notices; the SENT ones, at most 4, are the oldest and carry consecutive sequence
numbers that end before next seq; the resend deadline runs while a notice is SENT (R154, R159, R161, R162). -/
def Device.windowKept (d : Device) : Prop :=
  d.notices.queue.length ≤ 32 ∧ d.notices.sentCount ≤ 4 ∧ d.notices.nextSeq < 256 ∧
  (∀ i n, d.notices.queue[i]? = some n →
    if i < d.notices.sentCount then
      ∃ mark, n.state = .sent ((d.notices.nextSeq + 256 - d.notices.sentCount + i) % 256) mark
    else n.state = .unsent) ∧
  ((d.entryOf .resend).isSome ↔ 0 < d.notices.sentCount)

/-- The holders of a line are the TRIPPED and RELEASING watches with the line in their hold sets (R92). -/
def Device.holdersKept (d : Device) : Prop :=
  ∀ (n : Fin 8) (w : Fin 16), d.lines[n].watchHolders.getLsbD w =
    match d.watches[w] with
    | some r => (r.state == .tripped || r.state == .releasing) && r.holdSet.getLsbD n
    | none => false

/-- A timer has an entry exactly while it is RUNNING with source TIME (R20), and only a TIME timer is ABSOLUTE (R24). -/
def Device.timersScheduled (d : Device) : Prop :=
  ∀ t : Fin 24,
    ((d.entryOf (.timer t)).isSome ↔ ∃ r sc, d.timers[t] = some r ∧ r.state = .running ∧ r.source = .time sc) ∧
    ∀ r due, d.timers[t] = some r → r.kind = .absolute due → ∃ sc, r.source = .time sc

/-- A watch has an entry exactly while it is RUNNING, WARN or RELEASING, or is watch 0 TRIPPED without LOCKOUT (R65). -/
def Device.watchesScheduled (d : Device) : Prop :=
  ∀ w : Fin 16, (d.entryOf (.watch w)).isSome ↔
    ∃ r, d.watches[w] = some r ∧ (r.state = .running ∨ r.state = .warn ∨ r.state = .releasing ∨
      (r.state = .tripped ∧ w = 0 ∧ d.linkWatch.lockout = false))

/-- Watch 0 is LINK-sourced and active with its fixed fields, its period is the one of its code and its grace equals it;
its trip count is at most 3; while it is RUNNING or WARN that count is 0 and LOCKOUT is clear, and in TRIPPED and
RELEASING LOCKOUT is set exactly where the count is 3 (R105, R111, R112). -/
def Device.linkWatchKept (d : Device) : Prop :=
  ∃ r, d.watches[(0 : Fin 16)] = some r ∧ r.state ≠ .dormant ∧ r.source = .link ∧ r.minInterval = 0 ∧
    r.settle = 100 ∧ r.grace = r.period ∧ [250, 1000, 4000, 16000][d.linkWatch.periodCode.val]? = some r.period ∧
    (10 ≤ d.linkWatch.rstoWidth ∧ d.linkWatch.rstoWidth ≤ 250) ∧ d.linkWatch.consecutive ≤ 3 ∧
    (r.state = .running ∨ r.state = .warn → d.linkWatch.consecutive = 0 ∧ d.linkWatch.lockout = false) ∧
    (r.state = .tripped ∨ r.state = .releasing →
      0 < d.linkWatch.consecutive ∧ (d.linkWatch.lockout = true ↔ d.linkWatch.consecutive = 3))

/-- Every parent is defined, and no chain is deeper than 4 (R22): `ancestors` k links up from any timer end within 4. -/
def Device.chainsBounded (d : Device) : Prop :=
  (∀ x p, d.parentOf x = some p → d.timers[p].isSome) ∧
  ∀ x, ((((d.parentOf x).bind d.parentOf).bind d.parentOf).bind d.parentOf) = none

/-- A line is bound exactly to the timer whose output action names it (R23, R123); an input line has the role CHECKIN or
COUNT exactly for the watch or timer whose source names it (R143), and a TRIGGER role names a defined timer (R40). -/
def Device.claimsKept (d : Device) : Prop :=
  (∀ (n : Fin 8) (t : Fin 24), d.lines[n].binding = some t ↔
    ∃ r a, d.timers[t] = some r ∧ r.output = some a ∧ a.line = n) ∧
  (∀ (n : Fin 8) (t : Fin 24), d.inputs[n].role = .count t ↔ ∃ r e, d.timers[t] = some r ∧ r.source = .input n e) ∧
  (∀ (n : Fin 8) (w : Fin 16), d.inputs[n].role = .checkin w ↔
    ∃ r a, d.watches[w] = some r ∧ r.source = .line n a) ∧
  (∀ (n : Fin 8) (t : Fin 24) e act, d.inputs[n].role = .trigger t e act → d.timers[t].isSome)

/-- A pulse is in flight on a line exactly while its PULSE entry stands, and the pulse end is that entry's due instant
(R126); an unbound line has none (R123), and every PULSE action has a width (R24). -/
def Device.pulsesKept (d : Device) : Prop :=
  (∀ n : Fin 8, (d.entryOf (.pulse n)).map Entry.due = d.lines[n].pulseEnd.map (fun (t : Nat) => (t : Int))) ∧
  (∀ n : Fin 8, d.lines[n].binding = none → d.lines[n].pulseEnd = none) ∧
  ∀ (t : Fin 24) r a w, d.timers[t] = some r → r.output = some a → a.effect = .pulse w → 0 < w

/-- The fixed capacities of the link port, the fault record and the time base (R1, R114, R174, R176). -/
def Device.withinCapacity (d : Device) : Prop :=
  d.elapsed ≤ 281474976710655 ∧ d.link.receiveQueue.length ≤ 4 ∧ d.link.replyQueue.length ≤ 4 ∧
  d.fault.entries.length ≤ 4 ∧ d.fault.generation < 65536 ∧ d.notices.pendingLoss ≤ 65535

end Sys2Proof.Machine
end

