-- ==== Sys2Proof/Certificates/Slice0/Obligations.lean ====
section
/-! DEFINITION. What is claimed of the model: each statement formalises rules of spec/, named in OBLIGATIONS.json. -/

open Sys2Proof Sys2Proof.Machine

/-! ### The step -/

/-- A step runs the command at the front of the queue, with the queue's rest. -/
def Obligations.StepRunsFrontCommand : Prop :=
  ∀ (s : State) (c : Instr) (rest : List Instr), s.pending = c :: rest → step s = exec c { s with pending := rest }

/-- With no command waiting the device goes on of itself (log entry 2, the model's choice): in a reset that RST_N holds
nothing happens; a RESTART reset in progress comes to its end with the pins last sampled (log entry 19); else a due
head is handed over (R11); else a sample the tick owes is taken (R140); else the next tick comes (R1). What an event
command does where its event is not there (log entry 4, the model's choice): nothing. At the end of elapsed time all
ticks are one instant, and a due head whose owner has been handed over is none (log entries 16 and 28, the model's
choice). -/
def Obligations.IdleStepAndAbsentEvents : Prop :=
  (∀ s : State, s.pending = [] →
    (∀ cause, s.mode = .held cause → cause ≠ .restart → step s = .next s) ∧
    (s.mode = .held .restart → ∀ pins : BitVec 8,
      (∀ n : Fin 8, pins.getLsbD n = decide (s.inputs[n].raw = .high)) →
      step s = .next (s.become (freshDevice pins s.link.spd
        { s.fault with lastCause := .restart, generation := (s.fault.generation + 1) % 65536 }))) ∧
    (s.mode = .running →
      (∀ e, s.toDevice.headDue = some e → step s = .next (s.become (s.toDevice.handOver e))) ∧
      (s.toDevice.headDue = none →
        (s.sampleOwed = true → step s = .next (s.become (s.toDevice.sampleAll s.toDevice.rawLevels []))) ∧
        (s.sampleOwed = false → s.elapsed < 281474976710655 →
          step s = .next (s.become { s.toDevice with elapsed := s.elapsed + 1, handed := [], sampleOwed := true })) ∧
        (s.sampleOwed = false → s.elapsed = 281474976710655 →
          step s = .next (s.become { s.toDevice with sampleOwed := true }))))) ∧
  ∀ s : State, s.mode = .running →
    (s.toDevice.headDue = none →
      ∀ c ∈ [Instr.timerExpiry, .renewalDeadlineExpiry, .graceDeadlineExpiry, .settleDeadlineExpiry,
        .retripDeadlineExpiry, .pulseEnd, .rstoPulseEnd, .resendDeadlineExpiry], exec c s = .next s) ∧
    (s.link.transmitting = none → exec .transmitComplete s = .next s) ∧
    (s.link.restartPending = false ∨ s.link.replyQueue ≠ [] ∨ (∀ f, s.link.transmitting = some f → f.kind ≠ 0x83) →
      ∀ pins spd, exec (.restartReset pins spd) s = .next s) ∧
    (∀ pins spd, exec (.rstNRelease pins spd) s = .next s)

/-- No command faults or is refused, in whatever state it is given, and none touches the queue of waiting commands.
That is the model's: that every mistake has an answer short of a stop is log entry 21, that an event command whose
event is not there answers the state as it is, and so does a command in a reset, is log entry 4, and the queue is the
model's own field. -/
def Obligations.EveryCommandAnswersNext : Prop :=
  ∀ (c : Instr) (s : State), ∃ t, exec c s = .next t ∧ t.pending = s.pending

/-! ### Encodings -/

/-- The request and reply codes of Table 11-2, and no other code names a request. -/
def Obligations.RequestCodesAsTabled : Prop :=
  (Request.all.map (fun r => (r.code, r.replyCode)) =
    [(0x01, 0x81), (0x02, 0x82), (0x03, 0x83), (0x08, 0x88), (0x09, 0x89), (0x0A, 0x8A), (0x10, 0x90), (0x11, 0x91),
     (0x12, 0x92), (0x13, 0x93), (0x14, 0x94), (0x15, 0x95), (0x16, 0x96), (0x20, 0xA0), (0x21, 0xA1), (0x22, 0xA2),
     (0x23, 0xA3), (0x24, 0xA4), (0x25, 0xA5), (0x26, 0xA6), (0x27, 0xA7), (0x30, 0xB0), (0x31, 0xB1), (0x32, 0xB2),
     (0x33, 0xB3), (0x34, 0xB4), (0x38, 0xB8), (0x39, 0xB9), (0x40, 0xC0), (0x48, 0xC8), (0x49, 0xC9)]) ∧
  ∀ (kind : Byte) (r : Request), Request.ofCode kind = some r ↔ r.code = kind

/-- A multi-byte field is its value's bytes, most significant first (R188). The CRC of any bytes followed by their own
CRC is 0: what a receiver may check in place of comparing (R172). A byte is a character of ten bit times, start bit
LOW, data bits least significant first, stop bit HIGH, and the receiver takes it back whatever the stop bit; TXD
carries the characters of the frame in transmission and is HIGH after the last, and with the transmitter free (R168).
-/
def Obligations.FieldCrcAndCharacterBits : Prop :=
  (∀ (k n : Nat), (beBytes k n).length = k ∧ beValue (beBytes k n) = n % 256 ^ k ∧
    ∀ i < k, (beBytes k n)[i]? = some (BitVec.ofNat 8 (n / 256 ^ (k - 1 - i)))) ∧
  (∀ bytes : List Byte, crc16 (bytes ++ beBytes 2 (crc16 bytes).toNat) = 0) ∧
  (∀ (b : Byte) (stop : Level), (character b).length = 10 ∧ characterByte ((character b).set 9 stop) = b) ∧
  ∀ (d : Device) (bit : Nat), d.mode = .running →
    (d.link.transmitting = none → d.txd bit = .high) ∧
    ∀ f, d.link.transmitting = some f →
      (10 * (f.payload.length + 6) ≤ bit → d.txd bit = .high) ∧
      ∀ b, f.wire[bit / 10]? = some b →
        d.txd bit = if bit % 10 = 0 then .low else if bit % 10 = 9 then .high
          else if b.getLsbD (bit % 10 - 1) then .high else .low

/-- Every timer definition, laid out as TIMER_QUERY reports it behind its id (Tables 11-7, 11-8), is a TIMER_DEFINE
payload of the right length that is read back as that definition. -/
def Obligations.TimerDefinitionRoundTrip : Prop :=
  ∀ (t : Fin 24) (r : TimerRec), r.definable t →
    Request.timerDefine.lengthFits (byte t :: r.definitionBytes) = true ∧
    idAt 24 (byte t :: r.definitionBytes) 0 = some t ∧ parseTimer t (byte t :: r.definitionBytes) = some r

/-- A frame received byte by byte, from the start byte to its last CRC byte, does what the command of its kind does
(that a request command is such a frame, and that a byte command is a byte, are log entries 9 and 10): the bytes run as
START_BYTE, FRAME_CONTENT_BYTE and FRAME_RECEIVED commands, and the frame they make is the request (R169 to R174). The
FRAME_RECEIVED that ends a good frame of a request answers a next state, that of the request with the assembly HUNTING
again. -/
def Obligations.FrameReceivedByteByByte : Prop :=
  (∀ (s : State) (r : Request) (tag : Byte) (p : List Byte), s.mode = .running → p.length ≤ 56 →
    s.link.assembly = .assembling ((r.frame tag p).wire.drop 1).dropLast →
    ∃ t, exec (.frameReceived ((r.frame tag p).wire.getLastD 0)) s = .next t ∧
      exec (r.command tag p) (s.become { s.toDevice with link := { s.link with assembly := .hunting } }) = .next t) ∧
  ∀ (s : State) (tag : Byte) (p : List Byte) (rest : List Instr),
    s.mode = .running → s.link.assembly = .hunting → p.length ≤ 56 →
    (∀ r : Request,
      Host.Core.run Sys2Proof.core (p.length + 6)
          ({ s with pending := (r.frame tag p).receptions ++ rest } : State) =
        exec (r.command tag p) { s with pending := rest }) ∧
    (∀ kind : Byte, Request.ofCode kind = none →
      Host.Core.run Sys2Proof.core (p.length + 6)
          ({ s with pending := (Frame.mk kind tag p).receptions ++ rest } : State) =
        exec (.unknownRequest kind tag p) { s with pending := rest })

/-! ### Every request -/

/-- Every request that can be taken is taken at once and draws exactly one reply, of its kind and tag, with a status; a
refused request changes nothing else, but for the phase rule's outcomes (R177). -/
def Obligations.EveryRequestAnswered : Prop :=
  ∀ (s : State) (r : Request) (tag : Byte) (p : List Byte), s.ready →
    ∃ (d : Device) (st : Status) (fields : List Byte),
      exec (r.command tag p) s = .next (s.answers d r tag (st.code :: fields)) ∧ st ≠ .unknownRequest ∧
      (st.refuses = true → d = s.toDevice)

/-- A request of the wrong length is refused with BAD_LENGTH, echoing its first byte where its kind does (R179, R190).
-/
def Obligations.WrongLengthRefused : Prop :=
  ∀ (s : State) (r : Request) (tag : Byte) (p : List Byte), s.ready → r.lengthFits p = false →
    exec (r.command tag p) s =
      .next (s.answers s.toDevice r tag (0x11 :: if r.echoes = true then p.take 1 else []))

/-- No reply's payload exceeds 56 bytes while the fault record keeps to its four entries, and no notice's exceeds 21
(R190). -/
def Obligations.PayloadsFitTheirFrames : Prop :=
  (∀ (r : Request) (p : List Byte) (d : Device), d.fault.entries.length ≤ 4 → (takeRequest r p d).2.length ≤ 56) ∧
  ∀ n : Notice, n.frame.payload.length ≤ 21

/-- A good frame that cannot be taken now: discarded without a trace while a restart is pending, counted as overrun
behind four waiting frames, and otherwise queued behind the others while four replies wait (R174, R176). A frame whose
kind names no request is answered UNKNOWN_REQUEST, whatever its length, and counted (R178, R190). -/
def Obligations.UntakenAndUnknownFrames : Prop :=
  (∀ (s : State) (r : Request) (tag : Byte) (p : List Byte), s.mode = .running →
    (s.link.restartPending = true → exec (r.command tag p) s = .next s) ∧
    (s.link.restartPending = false → 4 ≤ s.link.receiveQueue.length →
      exec (r.command tag p) s = .next (s.become { s.toDevice with link :=
        { s.link with counters := { s.link.counters with overrun := min (s.link.counters.overrun + 1) 65535 } } })) ∧
    (s.link.restartPending = false → s.link.receiveQueue.length < 4 → 4 ≤ s.link.replyQueue.length →
      exec (r.command tag p) s = .next (s.become { s.toDevice with link :=
        { s.link with receiveQueue := s.link.receiveQueue ++ [r.frame tag p] } }))) ∧
  ∀ (s : State) (kind tag : Byte) (p : List Byte), s.ready → Request.ofCode kind = none →
    exec (.unknownRequest kind tag p) s = .next (s.become { s.toDevice with
      link := LinkPort.answered
        { s.link with
          counters := { s.link.counters with unknownRequest := min (s.link.counters.unknownRequest + 1) 65535 } }
        { kind := 0xFF, tag := tag, payload := [0x10, kind] } })

/-! ### Link port and time base -/

/-- IDENTIFY (R182). TIME_GET reports elapsed time and, within its 48-bit range, wall time, both of one now, and
changes no state (R3). -/
def Obligations.IdentifyAndTimeGetReport : Prop :=
  (∀ (s : State) (tag : Byte) (p : List Byte), s.ready →
    exec (.identify tag p) s = .next (s.answers s.toDevice .identify tag
      (if p = [] then [0x00, 0x5D, 0x24, 0x16, 0x01, 24, 16, 8, 8, 32, 50] ++ beBytes 6 s.elapsed else [0x11]))) ∧
  ∀ (s : State) (tag : Byte) (p : List Byte), s.ready →
    (p ≠ [] → exec (.timeGet tag p) s = .next (s.answers s.toDevice .timeGet tag [0x11])) ∧
    (p = [] → ∃ wall : List Byte, wall.length = 6 ∧
      (0 ≤ s.elapsed + s.wallOffset → s.elapsed + s.wallOffset < 281474976710656 →
        wall = beBytes 6 (s.elapsed + s.wallOffset).toNat) ∧
      exec (.timeGet tag p) s =
        .next (s.answers s.toDevice .timeGet tag (0x00 :: beBytes 6 s.elapsed ++ wall)))

/-- LINK_QUERY reports the six counters, clears them with clear 1, and refuses any other clear value and length (R183).
-/
def Obligations.LinkQueryReportsAndClears : Prop :=
  ∀ (s : State) (tag clear : Byte), s.ready →
    (∀ p : List Byte, p.length ≠ 1 → exec (.linkQuery tag p) s = .next (s.answers s.toDevice .linkQuery tag [0x11])) ∧
    (clear = 0 → exec (.linkQuery tag [clear]) s = .next (s.answers s.toDevice .linkQuery tag
      (0x00 :: s.link.counters.fields))) ∧
    (clear = 1 → exec (.linkQuery tag [clear]) s = .next (s.answers
      { s.toDevice with link := { s.link with counters :=
          { noise := 0, badLength := 0, badCrc := 0, gap := 0, overrun := 0, unknownRequest := 0 } } }
      .linkQuery tag (0x00 :: s.link.counters.fields))) ∧
    (clear ≠ 0 → clear ≠ 1 → exec (.linkQuery tag [clear]) s = .next (s.answers s.toDevice .linkQuery tag [0x12]))

/-- A TIME_SET within range sets wall time to the value given and moves every absolute entry to its due wall time minus
the new offset, each keeping its insertion position and the others staying as they are (R4, R5). The entries so made
past due are handed over within the request, in the order of the list, each a late expiry, and their number is replied
(R6, R13); here their timers trigger and count into no timer and have not been handed over at this instant. That an
entry R14 delayed at an earlier instant is re-keyed by R5's formula like any other, and so may be past due after a zero
or a backward step, is the model's choice (log entry 26). A TIME_SET above 2^47 - 1 is refused with BAD_ARG (R4); one
accepted, whatever it makes due, leaves elapsed time and every watch, RSTO pulse and resend entry where it was (R6). -/
def Obligations.TimeSetMovesAbsoluteEntriesAlone : Prop :=
  (∀ (s : State) (tag : Byte) (wall : Nat), s.ready → s.toDevice.listOrdered → s.toDevice.settled →
    wall ≤ 140737488355327 → s.elapsed < 140737488355328 → 0 ≤ s.wallOffset + s.elapsed →
    s.wallOffset + s.elapsed ≤ 140737488355328 →
    (∀ e ∈ s.deadlines, ∀ w, e.wall = some w → w ≤ wall →
      ∃ (t : Fin 24) (r : TimerRec) (sc : Scale), e.owner = .timer t ∧ .timer t ∉ s.handed ∧ s.timers[t] = some r ∧
        r.kind = .absolute w ∧ r.source = .time sc ∧ r.trigger = none ∧
        ∀ (x : Fin 24) rx, s.timers[x] = some rx → rx.source ≠ .parent t) →
    ∃ l : List Entry,
      l.Perm (s.deadlines.map (fun e =>
        match e.wall with
        | some w => { e with due := min (w - (wall - s.elapsed : Int)) 281474976710655, pastDue := decide (w ≤ wall) }
        | none => e)) ∧
      l.Pairwise (fun e f => e.due < f.due ∨ (e.due = f.due ∧ e.pos < f.pos)) ∧
      exec (.timeSet tag (beBytes 6 wall)) s = .next (s.answers
        ((l.filter Entry.pastDue).foldl
          (fun d e =>
            match e.owner with
            | .timer t => (s.timers[t]).elim d (fun r => d.expiredLate t r)
            | _ => d)
          { s.toDevice with wallOffset := wall - s.elapsed, deadlines := l }) .timeSet tag
        (0x00 :: beBytes 6 (BitVec.ofInt 48 (wall - (s.elapsed + s.wallOffset))).toNat ++
          [byte (l.countP Entry.pastDue)]))) ∧
  ∀ (s : State) (tag : Byte) (wall : Nat), s.ready → s.toDevice.listOrdered → s.toDevice.settled →
    wall < 281474976710656 →
    (140737488355327 < wall →
      exec (.timeSet tag (beBytes 6 wall)) s = .next (s.answers s.toDevice .timeSet tag [0x12])) ∧
    (wall ≤ 140737488355327 →
      ∃ t, exec (.timeSet tag (beBytes 6 wall)) s = .next t ∧ t.elapsed = s.elapsed ∧
        (∀ w, t.toDevice.entryOf (.watch w) = s.toDevice.entryOf (.watch w)) ∧
        t.toDevice.entryOf .rstoPulse = s.toDevice.entryOf .rstoPulse ∧
        t.toDevice.entryOf .resend = s.toDevice.entryOf .resend)

/-- SCHEDULE_QUERY returns the count, the start and up to six entries from it on, and changes no state; a wrong length
is refused (R16). -/
def Obligations.ScheduleQueryReportsWindow : Prop :=
  ∀ (s : State) (tag start : Byte), s.ready →
    (∀ p : List Byte, p.length ≠ 1 →
      exec (.scheduleQuery tag p) s = .next (s.answers s.toDevice .scheduleQuery tag [0x11])) ∧
    exec (.scheduleQuery tag [start]) s = .next (s.answers s.toDevice .scheduleQuery tag
      ([0x00, byte s.deadlines.length, start] ++
        ((s.deadlines.drop start.toNat).take 6).flatMap (fun e => e.owner.code ++ beBytes 6 e.due.toNat)))

/-- An insertion places the owner's one entry behind every entry of an earlier or equal due instant and before every
later one (R9), and leaves every other owner's entry as it is. A due instant beyond the end of elapsed time is recorded
as that end (R1). One at or before now is recorded as given, past due where it is an absolute timer's (R13), but as the
next instant and not past due where the owner has been handed over at this instant (R14). The mark is the model's own
(log entry 14), and that it is set at the end of elapsed time, too, is its choice (log entry 28). -/
def Obligations.InsertionPlacesEntry : Prop :=
  ∀ (d : Device) (o : Owner) (due : Int) (wall : Option Nat), d.listOrdered →
    ∃ (before after : List Entry) (e : Entry),
      before ++ after = d.deadlines.filter (fun f => f.owner ≠ o) ∧
      (d.insertEntry o due wall).deadlines = before ++ e :: after ∧
      e.owner = o ∧ e.wall = wall ∧ (∀ f ∈ before, f.due ≤ e.due) ∧ (∀ f ∈ after, e.due < f.due) ∧
      let recorded : Int := min due 281474976710655
      ((d.elapsed : Int) < recorded → e.due = recorded ∧ e.pastDue = false) ∧
      (recorded ≤ d.elapsed → o ∉ d.handed → e.due = recorded ∧ e.pastDue = wall.isSome) ∧
      (recorded ≤ d.elapsed → o ∈ d.handed →
        e.due = min ((d.elapsed : Int) + 1) 281474976710655 ∧ e.pastDue = false)

/-! ### Timers -/

/-- An accepted TIMER_DEFINE of a FREE or IDLE timer stores the definition, gives up the old claims and takes the new
ones (R29); a period sent as 0 is stored as 1 and answered ADJUSTED (R24). -/
def Obligations.TimerDefineStores : Prop :=
  ∀ (s : State) (tag : Byte) (t : Fin 24) (r : TimerRec), s.ready → r.definable t →
    (∀ old, s.timers[t] = some old → old.state = .idle) →
    (∀ p, r.source = .parent p → s.timers[p].isSome) → s.toDevice.chainCheck t r.source = .ok →
    (∀ a u, r.output = some a → s.lines[a.line].binding = some u → u = t) →
    (∀ n e, r.source = .input n e → s.inputs[n].role = .none ∨ s.inputs[n].role = .count t) →
    let oldLine := (s.timers[t].bind TimerRec.output).map OutputAction.line
    let newLine := r.output.map OutputAction.line
    let oldInput := s.timers[t].bind (fun old => old.source.inputLine)
    let d : Device := { s.toDevice with
      timers := s.timers.set t (some r)
      lines := Vector.ofFn (fun n =>
        if newLine = some n then { s.lines[n] with
            shadow := .rest, binding := some t, pulseEnd := if oldLine = some n then none else s.lines[n].pulseEnd }
        else if oldLine = some n then { s.lines[n] with shadow := .rest, binding := none, pulseEnd := none }
        else s.lines[n])
      inputs := Vector.ofFn (fun n =>
        if r.source.inputLine = some n then { s.inputs[n] with role := .count t }
        else if oldInput = some n then { s.inputs[n] with role := .none }
        else s.inputs[n])
      deadlines := match oldLine with
        | some n => s.deadlines.filter (fun e => e.owner ≠ .pulse n)
        | none => s.deadlines }
    exec (.timerDefine tag (byte t :: r.definitionBytes)) s = .next (s.answers d .timerDefine tag
      ([0x00, byte t, 0x01] ++ beBytes 2 r.period)) ∧
    (r.period = 1 →
      exec (.timerDefine tag (((byte t :: r.definitionBytes).set 4 0x00).set 5 0x00)) s = .next (s.answers d .timerDefine
        tag [0x01, byte t, 0x01, 0x00, 0x01]))

/-- What refuses a TIMER_DEFINE of the right length: an argument out of range or arguments that do not go together
(R24, with the flag bits of R188), then, in the order of the checks, what R25 to R28 name (R179). What the one-byte
timer requests refuse (R31, R34, R37, R39 to R41): an id above 23 with BAD_ARG, a FREE timer with NO_SUCH, and by state
and kind. -/
def Obligations.TimerRequestsRefusedInOrder : Prop :=
  (∀ (s : State) (tag : Byte) (p : List Byte), s.ready → Request.timerDefine.lengthFits p = true →
    let b (i : Nat) : Nat := (p.getD i 0).toNat
    let has (bit : Nat) : Bool := (b 3).testBit bit
    let due := 9 + if has 0 then 1 else 0
    let out := due + if has 1 then 6 else 0
    let trig := out + (if has 2 then 4 else 0) + if has 3 then 1 else 0
    23 < b 0 ∨ 1 < b 1 ∨ 1 < b 2 ∨ 31 < b 3 ∨ 2 < b 6 ∨ (b 6 = 1 ∧ (23 < b 7 ∨ b 7 = b 0)) ∨
      (b 6 = 2 ∧ (7 < b 7 ∨ 2 < b 8)) ∨ (b 1 = 1 ∧ b 6 ≠ 0) ∨ (has 0 = true ↔ b 6 ≠ 0) ∨ (has 0 = true ∧ 3 < b 9) ∨
      (has 1 = true ↔ b 1 = 0) ∨ (has 1 = true ∧ 140737488355327 < beValue ((p.drop due).take 6)) ∨
      (has 2 = true ∧ (7 < b out ∨ 3 < b (out + 1) ∨ (b (out + 1) = 3 ∧ b (out + 2) = 0 ∧ b (out + 3) = 0))) ∨
      (has 4 = true ∧ (23 < b trig ∨ b trig = b 0)) →
    exec (.timerDefine tag p) s = .next (s.answers s.toDevice .timerDefine tag (0x12 :: p.take 1))) ∧
  (∀ (s : State) (tag : Byte) (t : Fin 24) (r : TimerRec), s.ready → r.definable t →
    let refused (st : Byte) := exec (.timerDefine tag (byte t :: r.definitionBytes)) s =
      .next (s.answers s.toDevice .timerDefine tag [st, byte t])
    let freeParent := ∃ p, r.source = .parent p ∧ s.timers[p] = none
    let boundElsewhere := ∃ a u, r.output = some a ∧ s.lines[a.line].binding = some u ∧ u ≠ t
    let inputTaken := ∃ n e, r.source = .input n e ∧ s.inputs[n].role ≠ .none ∧ s.inputs[n].role ≠ .count t
    let busy := ∃ old, s.timers[t] = some old ∧ old.state ≠ .idle
    (freeParent → refused 0x13) ∧
    (¬freeParent → boundElsewhere → refused 0x15) ∧
    (¬freeParent → ¬boundElsewhere → inputTaken → refused 0x14) ∧
    (¬freeParent → ¬boundElsewhere → ¬inputTaken → busy → refused 0x18) ∧
    (¬freeParent → ¬boundElsewhere → ¬inputTaken → ¬busy → s.toDevice.chainsBounded →
      ∀ p, r.source = .parent p →
        (p = t ∨ s.toDevice.parentOf p = some t ∨ (s.toDevice.parentOf p).bind s.toDevice.parentOf = some t ∨
          ((s.toDevice.parentOf p).bind s.toDevice.parentOf).bind s.toDevice.parentOf = some t → refused 0x1D) ∧
        (s.toDevice.inSubtree t p = false →
          (∃ x, s.toDevice.inSubtree t x = true ∧ 4 < chainDepth (s.toDevice.parentsWith t p) 24 x) → refused 0x1E))) ∧
  ∀ (s : State) (tag id : Byte), s.ready →
    let refused (q : Request) (st : Byte) :=
      exec (q.command tag [id]) s = .next (s.answers s.toDevice q tag [st, id])
    (23 < id.toNat →
      ∀ q ∈ [Request.timerStart, .timerStop, .timerPause, .timerResume, .timerFree, .timerQuery], refused q 0x12) ∧
    (∀ t : Fin 24, id = byte t →
      (s.timers[t] = none →
        ∀ q ∈ [Request.timerStart, .timerStop, .timerPause, .timerResume, .timerFree, .timerQuery], refused q 0x13) ∧
      ∀ r, s.timers[t] = some r →
        (r.state ≠ .idle → refused .timerStart 0x18) ∧
        (r.kind ≠ .relative → refused .timerPause 0x12) ∧
        (r.kind = .relative → r.state ≠ .running → refused .timerPause 0x18) ∧
        (r.state ≠ .paused → refused .timerResume 0x18))

/-- TIMER_START of an IDLE timer (R31): RUNNING with remaining the period; a RELATIVE TIME timer's entry one interval
on, an ABSOLUTE one's at its due wall time where that lies ahead (R32), a counted timer without an entry. TIMER_START
of an ABSOLUTE ONCE timer whose due wall time is not ahead expires it late within the request (R32, R46, R47): one
fire, one late count, its output effect and notice, IDLE again. Here it triggers and counts into no timer. -/
def Obligations.TimerStartRunsOrExpiresLate : Prop :=
  (∀ (s : State) (tag : Byte) (t : Fin 24) (r : TimerRec), s.ready → s.toDevice.settled → s.elapsed < 281474976710655 →
    s.timers[t] = some r → r.state = .idle →
    let d : Device := { s.toDevice with timers := s.timers.set t (some { r with state := .running, remaining := r.period }) }
    (∀ sc, r.kind = .relative → r.source = .time sc → 0 < r.period →
      exec (.timerStart tag [byte t]) s = .next (s.answers
        (d.insertEntry (.timer t) (s.elapsed + r.period * sc.ms) none) .timerStart tag
        ([0x00, byte t, 0x02, 0x01] ++ beBytes 6 (min (s.elapsed + r.period * sc.ms) 281474976710655)))) ∧
    (∀ due, r.kind = .absolute due → (s.elapsed : Int) < due - s.wallOffset →
      exec (.timerStart tag [byte t]) s = .next (s.answers
        (d.insertEntry (.timer t) (due - s.wallOffset) (some due)) .timerStart tag
        ([0x00, byte t, 0x02, 0x01] ++ beBytes 6 (min (due - s.wallOffset) 281474976710655).toNat))) ∧
    (r.kind = .relative → (∀ sc, r.source ≠ .time sc) → s.toDevice.entryOf (.timer t) = none →
      exec (.timerStart tag [byte t]) s = .next (s.answers d .timerStart tag [0x00, byte t, 0x02, 0x00, 0, 0, 0, 0, 0, 0]))) ∧
  ∀ (s : State) (tag : Byte) (t : Fin 24) (r : TimerRec) (due : Nat), s.ready → s.toDevice.settled →
    s.elapsed ≤ 281474976710655 →
    s.timers[t] = some r → r.state = .idle → r.kind = .absolute due → r.mode = .once → r.trigger = none →
    (∀ (x : Fin 24) rx, s.timers[x] = some rx → rx.source ≠ .parent t) → (due : Int) - s.wallOffset ≤ s.elapsed →
    .timer t ∉ s.handed →
    let r' := { r with remaining := r.period, fires := (r.fires + 1) % 4294967296, lateCount := min (r.lateCount + 1) 65535 }
    let d : Device := { s.toDevice with
      timers := s.timers.set t (some r')
      deadlines := s.deadlines.filter (fun e => e.owner ≠ .timer t)
      handed := .timer t :: s.handed }
    exec (.timerStart tag [byte t]) s = .next (s.answers (d.actions t r ((r.fires + 1) % 4294967296) true 0) .timerStart tag
      [0x00, byte t, 0x01, 0x00, 0, 0, 0, 0, 0, 0])

/-- TIMER_STOP (R34): an IDLE timer stays as it is; a RUNNING or PAUSED one becomes IDLE, its entry leaves, and its
bound line returns to rest with any pulse cancelled. TIMER_PAUSE of a RUNNING RELATIVE timer keeps what it has left, in
whole units rounded up and at least 1 for a TIME source, and takes its entry off the list (R37); TIMER_RESUME of a
PAUSED timer counts on from there (R39). -/
def Obligations.TimerStopPauseResume : Prop :=
  (∀ (s : State) (tag : Byte) (t : Fin 24) (r : TimerRec), s.ready → s.timers[t] = some r →
    (r.state = .idle →
      exec (.timerStop tag [byte t]) s = .next (s.answers s.toDevice .timerStop tag [0x00, byte t, 0x01])) ∧
    (r.state ≠ .idle →
      exec (.timerStop tag [byte t]) s = .next (s.answers
        { s.toDevice with
          timers := s.timers.set t (some { r with state := .idle, remaining := r.period })
          lines := match r.output with
            | some a => s.lines.set a.line { s.lines[a.line] with shadow := .rest, pulseEnd := none }
            | none => s.lines
          deadlines := s.deadlines.filter (fun e => e.owner ≠ .timer t ∧
            ∀ a, r.output = some a → e.owner ≠ .pulse a.line) } .timerStop tag [0x00, byte t, 0x01]))) ∧
  ∀ (s : State) (tag : Byte) (t : Fin 24) (r : TimerRec), s.ready → s.timers[t] = some r → r.kind = .relative →
    (∀ sc e, r.state = .running → r.source = .time sc → s.toDevice.entryOf (.timer t) = some e →
      let left := max 1 (((e.due - s.elapsed).toNat + (sc.ms - 1)) / sc.ms)
      exec (.timerPause tag [byte t]) s = .next (s.answers
        { s.toDevice with
          timers := s.timers.set t (some { r with state := .paused, remaining := left })
          deadlines := s.deadlines.filter (fun e => e.owner ≠ .timer t) } .timerPause tag
        ([0x00, byte t, 0x03] ++ beBytes 2 left))) ∧
    (r.state = .running → (∀ sc, r.source ≠ .time sc) →
      exec (.timerPause tag [byte t]) s = .next (s.answers
        { s.toDevice with timers := s.timers.set t (some { r with state := .paused }) } .timerPause tag
        ([0x00, byte t, 0x03] ++ beBytes 2 r.remaining))) ∧
    (∀ sc, r.state = .paused → r.source = .time sc → 0 < r.remaining → s.elapsed < 281474976710655 →
      exec (.timerResume tag [byte t]) s = .next (s.answers
        (Device.insertEntry (.timer t) (s.elapsed + r.remaining * sc.ms) none
          { s.toDevice with timers := s.timers.set t (some { r with state := .running }) }) .timerResume tag
        ([0x00, byte t, 0x02, 0x01] ++ beBytes 6 (min (s.elapsed + r.remaining * sc.ms) 281474976710655)))) ∧
    (r.state = .paused → (∀ sc, r.source ≠ .time sc) → s.toDevice.entryOf (.timer t) = none →
      exec (.timerResume tag [byte t]) s = .next (s.answers
        { s.toDevice with timers := s.timers.set t (some { r with state := .running }) } .timerResume tag
        [0x00, byte t, 0x02, 0x00, 0, 0, 0, 0, 0, 0]))

/-- TIMER_FREE (R40): refused with IN_USE while a child, a trigger action or a TRIGGER role names the timer, then with
WRONG_STATE unless IDLE; otherwise the record goes, and its binding and input claim with it. -/
def Obligations.TimerFreeRemoves : Prop :=
  ∀ (s : State) (tag : Byte) (t : Fin 24) (r : TimerRec), s.ready → s.timers[t] = some r →
    let named := (∃ (x : Fin 24) (rx : TimerRec), s.timers[x] = some rx ∧ (rx.source = .parent t ∨ rx.trigger = some t)) ∨
      ∃ (n : Fin 8) (e : Edge) (a : TriggerAct), s.inputs[n].role = .trigger t e a
    (named → exec (.timerFree tag [byte t]) s = .next (s.answers s.toDevice .timerFree tag [0x14, byte t])) ∧
    (¬named → r.state ≠ .idle →
      exec (.timerFree tag [byte t]) s = .next (s.answers s.toDevice .timerFree tag [0x18, byte t])) ∧
    (¬named → r.state = .idle →
      exec (.timerFree tag [byte t]) s = .next (s.answers
        { s.toDevice with
          timers := s.timers.set t none
          lines := match r.output with
            | some a => s.lines.set a.line { s.lines[a.line] with shadow := .rest, binding := none, pulseEnd := none }
            | none => s.lines
          inputs := match r.source with
            | .input n _ => s.inputs.set n { s.inputs[n] with role := .none }
            | .time _ => s.inputs
            | .parent _ => s.inputs
          deadlines := s.deadlines.filter (fun e => ∀ a, r.output = some a → e.owner ≠ .pulse a.line) }
        .timerFree tag [0x00, byte t, 0x00]))

/-- TIMER_QUERY reports the record (R41, Table 11-8) and changes no state. The remaining of an ABSOLUTE timer further
from its due instant than its field can say is open (log entry 8). -/
def Obligations.TimerQueryReports : Prop :=
  ∀ (s : State) (tag : Byte) (t : Fin 24) (r : TimerRec), s.ready → s.timers[t] = some r →
    (∀ sc, r.state = .running → r.source = .time sc → (s.toDevice.entryOf (.timer t)).isSome) →
    let left := match r.state, r.source, s.toDevice.entryOf (.timer t) with
      | .running, .time sc, some e => max 1 (((e.due - s.elapsed).toNat + (sc.ms - 1)) / sc.ms)
      | .idle, _, _ => r.period
      | _, _, _ => r.remaining
    ∃ remaining : List Byte, remaining.length = 2 ∧ (left ≤ 65535 → remaining = beBytes 2 left) ∧
      exec (.timerQuery tag [byte t]) s = .next (s.answers s.toDevice .timerQuery tag
        ([0x00, byte t, timerStateCode (some r.state)] ++ r.definitionBytes ++ remaining ++ beBytes 4 r.fires ++
          beBytes 2 r.lateCount ++
          match s.toDevice.entryOf (.timer t) with
          | some e => 0x01 :: beBytes 6 e.due.toNat
          | none => [0x00, 0, 0, 0, 0, 0, 0]))

/-- TIMER_EXPIRY of a timer that counts into no timer (R44 to R57): the counts, the continuation by mode and kind, the
output effect on its line, the notice, and the trigger on its target by the target's state, with the late expiry of an
ABSOLUTE target whose due wall time is not later than wall time. -/
def Obligations.TimerExpiryRunsItsStages : Prop :=
  ∀ (s : State) (e : Entry) (t : Fin 24) (r : TimerRec) (sc : Scale), s.mode = .running → s.toDevice.settled →
    s.toDevice.headDue = some e → e.owner = .timer t → s.timers[t] = some r → r.source = .time sc → 0 < r.period →
    (∀ (x : Fin 24) rx, s.timers[x] = some rx → rx.source ≠ .parent t) →
    (∀ u, r.trigger = some u → u ≠ t ∧ s.elapsed < 281474976710655 ∧
      ∀ (x : TimerRec) due, s.timers[u] = some x → x.kind = .absolute due →
        x.trigger = none ∧ (∃ sx, x.source = .time sx) ∧
        ∀ (y : Fin 24) ry, s.timers[y] = some ry → ry.source ≠ .parent u) →
    let taken : Device := s.toDevice.takeOwner (.timer t)
    let fires := (r.fires + 1) % 4294967296
    let finish (d : Device) (late : Bool) (missed : Nat) : Device :=
      let acted := d.actions t r fires late (min missed 65535)
      match r.trigger with
      | some u => acted.triggeredWhole u
      | none => acted
    (r.kind = .relative → r.mode = .once →
      exec .timerExpiry s = .next (s.become (finish { taken with
        timers := s.timers.set t (some { r with fires := fires, state := .idle, remaining := r.period }) } false 0).pump)) ∧
    (r.kind = .relative → r.mode = .repeating →
      exec .timerExpiry s = .next (s.become (finish (Device.insertEntry (.timer t) (e.due + r.period * sc.ms) none
        { taken with timers := s.timers.set t (some { r with fires := fires }) }) false 0).pump)) ∧
    (∀ due : Nat, r.kind = .absolute due → r.mode = .once → s.elapsed + s.wallOffset = due →
      exec .timerExpiry s = .next (s.become (finish { taken with
        timers := s.timers.set t (some { r with fires := fires, state := .idle, remaining := r.period }) } false 0).pump)) ∧
    (∀ due k : Nat, r.kind = .absolute due → r.mode = .repeating → (due : Int) ≤ s.elapsed + s.wallOffset →
      (due + k * (r.period * sc.ms) : Int) ≤ s.elapsed + s.wallOffset →
      s.elapsed + s.wallOffset < (due + (k + 1) * (r.period * sc.ms) : Int) →
      let late := decide ((due : Int) < s.elapsed + s.wallOffset)
      let counted := { r with fires := fires, lateCount := if late then min (r.lateCount + 1) 65535 else r.lateCount }
      let next := due + (k + 1) * (r.period * sc.ms)
      (next ≤ 140737488355327 →
        exec .timerExpiry s = .next (s.become (finish
          (Device.insertEntry (.timer t) (next - s.wallOffset) (some next)
            { taken with timers := s.timers.set t (some { counted with kind := .absolute next }) }) late k).pump)) ∧
      (140737488355327 < next →
        exec .timerExpiry s = .next (s.become (finish { taken with
          timers := s.timers.set t (some { counted with state := .idle, remaining := r.period }) } late k).pump)))

/-- Chain counting (R59, R60): at an expiry each RUNNING child takes one count; a child that is not RUNNING, and every
other timer, is left as it is, where no child reaches 0 and the timer triggers none. A child that reaches 0 expires at
once, not late (R46): it counts, goes IDLE if ONCE and starts its period again if REPEAT (R47, R49), and acts; children
that reach 0 at one expiry do so in ascending order of id. Here the timer is RELATIVE and acts on nothing itself, and
those children trigger and count into no timer. -/
def Obligations.ExpiryCountsIntoChildren : Prop :=
  (∀ (s : State) (e : Entry) (t : Fin 24) (r : TimerRec), s.mode = .running → s.toDevice.settled →
    s.link.receiveQueue = [] → s.toDevice.headDue = some e → e.owner = .timer t → s.timers[t] = some r →
    r.trigger = none → r.source ≠ .parent t →
    (∀ (x : Fin 24) rx, s.timers[x] = some rx → rx.source = .parent t → rx.state = .running → 2 ≤ rx.remaining) →
    ∃ u, exec .timerExpiry s = .next u ∧ ∀ x : Fin 24, x ≠ t →
      u.timers[x] = (s.timers[x]).map (fun rx =>
        if rx.source = .parent t ∧ rx.state = .running then { rx with remaining := rx.remaining - 1 } else rx)) ∧
  ∀ (s : State) (e : Entry) (t : Fin 24) (r : TimerRec) (sc : Scale), s.mode = .running → s.toDevice.settled →
    s.toDevice.headDue = some e → e.owner = .timer t → s.timers[t] = some r → r.kind = .relative →
    r.source = .time sc → 0 < r.period → r.output = none → r.notice = none → r.trigger = none →
    let counts (x : Fin 24) : Bool := (s.timers[x]).any (fun rx => rx.source = .parent t ∧ rx.state = .running)
    let last (x : Fin 24) : Bool := counts x && (s.timers[x]).any (fun rx => rx.remaining = 1)
    (∀ (x : Fin 24) rx, s.timers[x] = some rx → counts x = true → 1 ≤ rx.remaining) →
    (∀ (x : Fin 24) rx, s.timers[x] = some rx → last x = true → rx.kind = .relative ∧ rx.trigger = none ∧
      ∀ (y : Fin 24) ry, s.timers[y] = some ry → ry.source ≠ .parent x) →
    let fires (rx : TimerRec) : Nat := (rx.fires + 1) % 4294967296
    let record (x : Fin 24) (rx : TimerRec) : TimerRec :=
      if x = t then { r with
          fires := fires r, state := if r.mode = .once then .idle else r.state
          remaining := if r.mode = .once then r.period else r.remaining }
      else if last x then { rx with
          fires := fires rx, state := if rx.mode = .once then .idle else .running, remaining := rx.period }
      else if counts x then { rx with remaining := rx.remaining - 1 }
      else rx
    let taken : Device := s.toDevice.takeOwner (.timer t)
    let next : Device := match r.mode with
      | .once => taken
      | .repeating => taken.insertEntry (.timer t) (e.due + r.period * sc.ms) none
    exec .timerExpiry s = .next (s.become
      (((List.finRange 24).filter last).foldl
        (fun (d : Device) (x : Fin 24) => (s.timers[x]).elim d (fun rx => d.actions x rx (fires rx) false 0))
        { next with timers := Vector.ofFn (fun x => (s.timers[x]).map (record x)) }).pump)

/-! ### Watches -/

/-- An accepted WATCH_DEFINE of a FREE or DORMANT watch 1 to 15 stores the definition with the phase its source gives,
gives up the old input claim and takes the new one (R69). WATCH_START brings a DORMANT watch into supervision (R70). -/
def Obligations.WatchDefineAndStart : Prop :=
  (∀ (s : State) (tag : Byte) (w : Fin 16) (r : WatchRec), s.ready → r.definable → w ≠ 0 →
    (∀ old, s.watches[w] = some old → old.state = .dormant) →
    (∀ n a, r.source = .line n a → s.inputs[n].role = .none ∨ s.inputs[n].role = .checkin w) →
    let phase : Phase := match r.source with
      | .link => .opened
      | .line n a => if s.inputs[n].filtered = a then .half else .opened
    let oldInput := s.watches[w].bind (fun old => old.source.inputLine)
    exec (.watchDefine tag (r.definePayload w)) s = .next (s.answers
      { s.toDevice with
        watches := s.watches.set w (some { r with phase := phase })
        inputs := Vector.ofFn (fun n =>
          if r.source.inputLine = some n then { s.inputs[n] with role := .checkin w }
          else if oldInput = some n then { s.inputs[n] with role := .none }
          else s.inputs[n]) } .watchDefine tag [0x00, byte w, 0x01, phase.code])) ∧
  ∀ (s : State) (tag : Byte) (w : Fin 16) (r : WatchRec), s.ready → s.watches[w] = some r → r.state = .dormant →
    s.elapsed < 281474976710655 → 0 < r.period →
    let phase : Phase := match r.source with
      | .link => .opened
      | .line n a => if s.inputs[n].filtered = a then .half else .opened
    exec (.watchStart tag [byte w]) s = .next (s.answers
      (Device.insertEntry (.watch w) (s.elapsed + r.period) none
        { s.toDevice with watches := s.watches.set w (some { r with
            state := .running, lastRenewal := some s.elapsed, recovery := 0, phase := phase }) })
      .watchStart tag
      ([0x00, byte w, 0x02, phase.code] ++ beBytes 6 (min (s.elapsed + r.period) 281474976710655)))

/-- What the watch requests refuse by range, id, existence, claim, source and state (R67, R68, R70, R71, R80, R81, R82,
R84, R95, R96). -/
def Obligations.WatchRequestsRefused : Prop :=
  ∀ (s : State) (tag id : Byte), s.ready →
    let refused (q : Request) (p : List Byte) (st : Byte) :=
      exec (q.command tag p) s = .next (s.answers s.toDevice q tag (st :: p.take 1))
    (15 < id.toNat →
      ∀ q ∈ [Request.watchStart, .checkPrep, .checkConf, .watchRetire, .watchRelease, .watchQuery],
        refused q [id] 0x12) ∧
    refused .watchRetire [0x00] 0x12 ∧
    (∀ (period grace minInterval settle : Nat) (source line level holdSet : Byte), period < 65536 → grace < 65536 →
      minInterval < 65536 → settle < 65536 →
      let outside := period < 10 ∨ 60000 < period ∨ grace < 10 ∨ 60000 < grace ∨ period ≤ minInterval ∨ 10000 < settle
      let timing := beBytes 2 period ++ beBytes 2 grace ++ beBytes 2 minInterval ++ beBytes 2 settle ++ [holdSet]
      (id = 0 ∨ 15 < id.toNat ∨ 1 < source.toNat ∨ (source = 1 ∧ (7 < line.toNat ∨ 1 < level.toNat)) ∨ outside →
        refused .watchDefine ([id, source, line, level] ++ timing) 0x12) ∧
      (id ≠ 0 →
        (15 < id.toNat ∨ outside → refused .watchRetune (id :: timing) 0x12) ∧
        (¬outside → ∀ w : Fin 16, id = byte w →
          (s.watches[w] = none → refused .watchRetune (id :: timing) 0x13) ∧
          ∀ r, s.watches[w] = some r →
            (r.source ≠ .link → refused .watchRetune (id :: timing) 0x17) ∧
            (r.source = .link → r.state = .dormant ∨ r.state = .tripped ∨ r.state = .releasing →
              refused .watchRetune (id :: timing) 0x18)))) ∧
    (∀ code holdSet width : Byte,
      (3 < code.toNat ∨ width.toNat < 10 ∨ 250 < width.toNat → refused .watchRetune [0x00, code, holdSet, width] 0x12) ∧
      (code.toNat ≤ 3 → 10 ≤ width.toNat → width.toNat ≤ 250 → ∀ r, s.watches[(0 : Fin 16)] = some r →
        r.state = .tripped ∨ r.state = .releasing → refused .watchRetune [0x00, code, holdSet, width] 0x18)) ∧
    (∀ w : Fin 16, id = byte w →
      (s.watches[w] = none →
        ∀ q ∈ [Request.watchStart, .checkPrep, .checkConf, .watchRelease, .watchQuery], refused q [id] 0x13) ∧
      ∀ r, s.watches[w] = some r →
        (r.state ≠ .dormant → refused .watchStart [id] 0x18) ∧
        (r.source ≠ .link → refused .checkPrep [id] 0x17 ∧ refused .checkConf [id] 0x17) ∧
        (r.source = .link → r.state = .dormant → refused .checkPrep [id] 0x18 ∧ refused .checkConf [id] 0x18) ∧
        (r.state ≠ .tripped → refused .watchRelease [id] 0x18)) ∧
    (∀ w : Fin 16, id = byte w → w ≠ 0 →
      (s.watches[w] = none → refused .watchRetire [id] 0x13) ∧
      (∀ (r : WatchRec) n a, r.definable → r.source = .line n a → s.inputs[n].role ≠ .none → s.inputs[n].role ≠ .checkin w →
        refused .watchDefine (r.definePayload w) 0x14) ∧
      (∀ (r old : WatchRec), r.definable →
        (∀ n a, r.source = .line n a → s.inputs[n].role = .none ∨ s.inputs[n].role = .checkin w) →
        s.watches[w] = some old → old.state ≠ .dormant → refused .watchDefine (r.definePayload w) 0x18) ∧
      ∀ r, s.watches[w] = some r → r.state = .tripped ∨ r.state = .releasing → refused .watchRetire [id] 0x18)

/-- CHECK_PREP of a LINK-sourced active watch: in OPEN it makes the phase HALF and changes nothing else; in HALF, and
CHECK_CONF in OPEN, is out of step: the phase turns, the count rises, and a release in progress is aborted (R72, R98,
R99, R112). The reply reports the
record after the event, and after the hand-over of an entry due at the instant (R74, R75, R113; log entry 29). -/
def Obligations.CheckPrepAndOutOfStep : Prop :=
  ∀ (s : State) (tag : Byte) (w : Fin 16) (r : WatchRec), s.ready → s.watches[w] = some r → r.source = .link →
    r.state ≠ .dormant →
    (r.phase = .opened →
      let d : Device := { s.toDevice with watches := s.watches.set w (some { r with phase := .half }) }
      exec (.checkPrep tag [byte w]) s = .next (s.answers d .checkPrep tag (0x00 :: d.reported w))) ∧
    (∀ (q : Request) (phase : Phase),
      (q = .checkPrep ∧ r.phase = .half ∧ phase = .opened) ∨ (q = .checkConf ∧ r.phase = .opened ∧ phase = .half) →
      let r' := { r with phase := phase, outOfStep := min (r.outOfStep + 1) 65535 }
      (r.state ≠ .releasing →
        let d : Device := { s.toDevice with watches := s.watches.set w (some r') }
        exec (q.command tag [byte w]) s = .next (s.answers d q tag (0x19 :: d.reported w))) ∧
      (r.state = .releasing →
        let d : Device := { s.toDevice with
          watches := s.watches.set w (some { r' with state := .tripped, recovery := 0 })
          deadlines := s.deadlines.filter (fun e => e.owner ≠ .watch w) }
        let d := if w = 0 ∧ s.linkWatch.lockout = false then
          d.insertEntry (.watch 0) (s.elapsed + r.period + r.grace) none else d
        exec (q.command tag [byte w]) s =
          .next (s.answers (d.notify (.releaseAborted w .outOfStep)) q tag (0x19 :: d.reported w))))

/-- CHECK_CONF found in HALF, not early: a renewal, by state (R73, R86, R89, R94, R98, R109). The reply reports the
record after the event, and after the hand-over of an entry due at the instant (R74, R75, R113; log entry 29). -/
def Obligations.ConfirmRenews : Prop :=
  ∀ (s : State) (tag : Byte) (w : Fin 16) (r : WatchRec), s.ready → s.watches[w] = some r → r.source = .link →
    r.phase = .half → (∀ l, r.lastRenewal = some l → l + r.minInterval ≤ s.elapsed) →
    let r' := { r with phase := .opened, lastRenewal := some s.elapsed, renewals := min (r.renewals + 1) 65535 }
    let put (x : WatchRec) : Device := { s.toDevice with watches := s.watches.set w (some x) }
    let leaves (d : Device) : Prop :=
      exec (.checkConf tag [byte w]) s = .next (s.answers d .checkConf tag (0x00 :: d.reported w))
    (r.state = .running → leaves ((put r').insertEntry (.watch w) (s.elapsed + r.period) none)) ∧
    (r.state = .warn →
      leaves (((put { r' with state := .running }).insertEntry (.watch w) (s.elapsed + r.period) none).notify
        (.watchRecovered w))) ∧
    (r.state = .tripped →
      let d := put { r' with recovery := min (r.recovery + 1) 2 }
      leaves (if w = 0 ∧ s.linkWatch.lockout = false then
        d.insertEntry (.watch 0) (s.elapsed + r.period + r.grace) none else d)) ∧
    (r.state = .releasing → leaves (put r'))

/-- CHECK_CONF found in HALF less than min interval after the last renewal: an early candidate, by state (R73, R88,
R90, R91, R94, R99). Watch 0, with min interval 0, receives none (R105). The reply reports the record after the event,
and after the hand-over of an entry due at the instant (R74, R75, R113; log entry 29). -/
def Obligations.ConfirmEarlyEscalates : Prop :=
  ∀ (s : State) (tag : Byte) (w : Fin 16) (r : WatchRec) (l : Nat), s.ready → s.watches[w] = some r → r.source = .link →
    r.phase = .half → r.lastRenewal = some l → s.elapsed < l + r.minInterval → w ≠ 0 →
    let r' := { r with phase := .opened, earlyFaults := min (r.earlyFaults + 1) 65535 }
    let put (x : WatchRec) : Device := { s.toDevice with watches := s.watches.set w (some x) }
    let leaves (d : Device) : Prop :=
      exec (.checkConf tag [byte w]) s = .next (s.answers d .checkConf tag (0x1A :: d.reported w))
    (r.state = .running →
      leaves (((put { r' with state := .warn, warns := min (r.warns + 1) 65535 }).insertEntry
        (.watch w) (s.elapsed + r.grace) none).notify (.watchWarn w .early))) ∧
    (r.state = .warn →
      let d : Device := { put { r' with state := .tripped, trips := min (r.trips + 1) 65535, recovery := 0 } with
        deadlines := s.deadlines.filter (fun e => e.owner ≠ .watch w) }
      leaves (((d.addHolds w r.holdSet).notify (.watchTripped w .early)).recordTrip w .early)) ∧
    (r.state = .tripped → leaves (put { r' with recovery := 0 })) ∧
    (r.state = .releasing →
      let d : Device := { put { r' with state := .tripped, recovery := 0 } with
        deadlines := s.deadlines.filter (fun e => e.owner ≠ .watch w) }
      leaves (d.notify (.releaseAborted w .early)))

/-- WATCH_RETUNE is judged as a CHECK_CONF (R79): out of step in OPEN, the phase becoming HALF and nothing being stored
(R106), and early as that is, with nothing stored. One that renews stores the new timing and hold set before the
deadline is inserted (R80); of watch 0, the period and grace its code selects, the hold set and the RSTO width (R81,
R106). The reply reports the
record after the event, and after the hand-over of an entry due at the instant (R74, R75, R113; log entry 29). -/
def Obligations.WatchRetuneStores : Prop :=
  (∀ (s : State) (tag : Byte) (w : Fin 16) (r : WatchRec) (p : List Byte), s.ready → s.watches[w] = some r →
    r.source = .link → r.state = .running ∨ r.state = .warn →
    (w ≠ 0 ∧ ∃ (period grace minInterval settle : Nat) (holdSet : Byte), 10 ≤ period ∧ period ≤ 60000 ∧ 10 ≤ grace ∧
        grace ≤ 60000 ∧ minInterval < period ∧ settle ≤ 10000 ∧
        p = [byte w] ++ beBytes 2 period ++ beBytes 2 grace ++ beBytes 2 minInterval ++ beBytes 2 settle ++ [holdSet]) ∨
      (w = 0 ∧ ∃ code holdSet width : Byte, code.toNat ≤ 3 ∧ 10 ≤ width.toNat ∧ width.toNat ≤ 250 ∧
        p = [0x00, code, holdSet, width]) →
    (r.phase = .opened →
      let d : Device := { s.toDevice with
        watches := s.watches.set w (some { r with phase := .half, outOfStep := min (r.outOfStep + 1) 65535 }) }
      exec (.watchRetune tag p) s = .next (s.answers d .watchRetune tag (0x19 :: d.reported w))) ∧
    (∀ l, r.phase = .half → r.lastRenewal = some l → s.elapsed < l + r.minInterval →
      ∃ (d : Device) (fields : List Byte),
        exec (.checkConf tag [byte w]) s = .next (s.answers d .checkConf tag (0x1A :: fields)) ∧
        exec (.watchRetune tag p) s = .next (s.answers d .watchRetune tag (0x1A :: fields)))) ∧
  ∀ (s : State) (tag : Byte) (w : Fin 16) (r : WatchRec), s.ready → s.watches[w] = some r → r.source = .link →
    r.phase = .half → (∀ l, r.lastRenewal = some l → l + r.minInterval ≤ s.elapsed) →
    r.state = .running ∨ r.state = .warn →
    let renewed := { r with
      phase := .opened, state := .running, lastRenewal := some s.elapsed, renewals := min (r.renewals + 1) 65535 }
    let after (d : Device) : Device := if r.state = .warn then d.notify (.watchRecovered w) else d
    (∀ (period grace minInterval settle : Nat) (holdSet : Byte), w ≠ 0 →
      10 ≤ period → period ≤ 60000 → 10 ≤ grace → grace ≤ 60000 → minInterval < period → settle ≤ 10000 →
      let d : Device := after (Device.insertEntry (.watch w) (s.elapsed + period) none
        { s.toDevice with watches := s.watches.set w (some { renewed with
            period := period, grace := grace, minInterval := minInterval, settle := settle, holdSet := holdSet }) })
      exec (.watchRetune tag ([byte w] ++ beBytes 2 period ++ beBytes 2 grace ++ beBytes 2 minInterval ++
        beBytes 2 settle ++ [holdSet])) s = .next (s.answers d .watchRetune tag (0x00 :: d.reported w))) ∧
    (∀ (code : Fin 4) (period : Nat) (holdSet width : Byte), w = 0 →
      [250, 1000, 4000, 16000][code.val]? = some period → 10 ≤ width.toNat → width.toNat ≤ 250 →
      let d : Device := { after (Device.insertEntry (.watch 0) (s.elapsed + period) none
          { s.toDevice with watches := s.watches.set (0 : Fin 16) (some { renewed with
              period := period, grace := period, holdSet := holdSet }) }) with
        linkWatch := { s.linkWatch with periodCode := code, rstoWidth := width.toNat } }
      exec (.watchRetune tag [0x00, byte code, holdSet, width]) s =
        .next (s.answers d .watchRetune tag (0x00 :: d.reported 0)))

/-- WATCH_RETIRE frees a DORMANT watch at once, and a RUNNING or WARN one where it is a renewal, whose WATCH_RECOVERED
notice stands (R82); with the line or phase OPEN it is out of step, and in HALF less than min interval after the last
renewal it is an early candidate; each frees nothing, and the phase of a LINE source stays (R79, R83, R88, R90). The
reply reports the record after the event, and after the hand-over of an entry due at the instant (R74, R75, R113; log
entry 29). -/
def Obligations.WatchRetireFrees : Prop :=
  ∀ (s : State) (tag : Byte) (w : Fin 16) (r : WatchRec), s.ready → s.watches[w] = some r → w ≠ 0 →
    let freed : Device := { s.toDevice with
      watches := s.watches.set w none
      inputs := match r.source with
        | .line n _ => s.inputs.set n { s.inputs[n] with role := .none }
        | .link => s.inputs
      deadlines := s.deadlines.filter (fun e => e.owner ≠ .watch w) }
    (r.state = .dormant →
      exec (.watchRetire tag [byte w]) s = .next (s.answers freed .watchRetire tag [0x00, byte w, 0x00, 0xFF, 0xFF])) ∧
    (r.state = .running ∨ r.state = .warn → r.phase = .half →
      (∀ l, r.lastRenewal = some l → l + r.minInterval ≤ s.elapsed) →
      exec (.watchRetire tag [byte w]) s = .next (s.answers
        (if r.state = .warn then freed.notify (.watchRecovered w) else freed) .watchRetire tag
        [0x00, byte w, 0x00, 0xFF, 0xFF])) ∧
    (r.state = .running ∨ r.state = .warn → r.phase = .opened →
      let phase : Phase := match r.source with
        | .link => .half
        | .line _ _ => .opened
      let d : Device := { s.toDevice with
        watches := s.watches.set w (some { r with phase := phase, outOfStep := min (r.outOfStep + 1) 65535 }) }
      exec (.watchRetire tag [byte w]) s = .next (s.answers d .watchRetire tag (0x19 :: d.reported w))) ∧
    (∀ l, r.phase = .half → r.lastRenewal = some l → s.elapsed < l + r.minInterval →
      (∀ n a, r.source = .line n a → s.inputs[n].filtered = a) →
      let phase : Phase := match r.source with
        | .link => .opened
        | .line _ _ => .half
      let r' := { r with phase := phase, earlyFaults := min (r.earlyFaults + 1) 65535 }
      let put (x : WatchRec) : Device := { s.toDevice with watches := s.watches.set w (some x) }
      let leaves (d : Device) : Prop :=
        exec (.watchRetire tag [byte w]) s = .next (s.answers d .watchRetire tag (0x1A :: d.reported w))
      (r.state = .running →
        leaves (((put { r' with state := .warn, warns := min (r.warns + 1) 65535 }).insertEntry
          (.watch w) (s.elapsed + r.grace) none).notify (.watchWarn w .early))) ∧
      (r.state = .warn →
        let d : Device := { put { r' with state := .tripped, trips := min (r.trips + 1) 65535, recovery := 0 } with
          deadlines := s.deadlines.filter (fun e => e.owner ≠ .watch w) }
        leaves (((d.addHolds w r.holdSet).notify (.watchTripped w .early)).recordTrip w .early)))

/-- WATCH_RELEASE of a TRIPPED watch (R96, R97): below recovery 2 refused with NOT_RECOVERED; at 2 RELEASING with the
settle deadline in place of any other, its holds and FAULT staying. With settle 0 it completes within the request. -/
def Obligations.WatchReleaseBegins : Prop :=
  ∀ (s : State) (tag : Byte) (w : Fin 16) (r : WatchRec), s.ready → s.watches[w] = some r → r.state = .tripped →
    s.elapsed < 281474976710655 →
    (r.recovery < 2 →
      exec (.watchRelease tag [byte w]) s = .next (s.answers s.toDevice .watchRelease tag
        [0x1B, byte w, 0x04, r.phase.code, byte r.recovery])) ∧
    (r.recovery = 2 → 0 < r.settle →
      exec (.watchRelease tag [byte w]) s = .next (s.answers
        (Device.insertEntry (.watch w) (s.elapsed + r.settle) none
          { s.toDevice with watches := s.watches.set w (some { r with state := .releasing }) }) .watchRelease tag
        ([0x00, byte w, 0x05, r.phase.code, 0x02, 0x01] ++ beBytes 6 (min (s.elapsed + r.settle) 281474976710655)))) ∧
    (r.recovery = 2 → r.settle = 0 → 0 < r.period → w ≠ 0 →
      exec (.watchRelease tag [byte w]) s = .next (s.answers
        ((Device.insertEntry (.watch w) (s.elapsed + r.period) none
          (Device.dropHolds w r.holdSet
            { s.toDevice with watches := s.watches.set w (some { r with
                state := .running, recovery := 0, lastRenewal := some s.elapsed }) })).notify (.releaseDone w))
        .watchRelease tag
        ([0x00, byte w, 0x02, r.phase.code, 0x00, 0x01] ++ beBytes 6 (min (s.elapsed + r.period) 281474976710655))))

/-- WATCH_QUERY reports the record (R84, Table 11-9) and changes no state; a wrong length, an id above 15 and a FREE
watch are refused. -/
def Obligations.WatchQueryReports : Prop :=
  (∀ (s : State) (tag id : Byte) (w : Fin 16) (p : List Byte), s.ready →
    let refused (p : List Byte) (st : Byte) :=
      exec (.watchQuery tag p) s = .next (s.answers s.toDevice .watchQuery tag (st :: p.take 1))
    (p.length ≠ 1 → refused p 0x11) ∧ (15 < id.toNat → refused [id] 0x12) ∧
      (s.watches[w] = none → refused [byte w] 0x13)) ∧
  ∀ (s : State) (tag : Byte) (w : Fin 16) (r : WatchRec), s.ready → s.watches[w] = some r →
    exec (.watchQuery tag [byte w]) s = .next (s.answers s.toDevice .watchQuery tag
      ([0x00, byte w, watchStateCode (some r.state)] ++
        (match r.source with
          | .link => [0x00, 0xFF, 0xFF]
          | .line n a => [0x01, byte n, levelCode a]) ++ [r.phase.code] ++
        beBytes 2 r.period ++ beBytes 2 r.grace ++ beBytes 2 r.minInterval ++ beBytes 2 r.settle ++ [r.holdSet] ++
        (match r.lastRenewal with
          | some l => 0x01 :: beBytes 6 l
          | none => [0x00, 0, 0, 0, 0, 0, 0]) ++ [byte r.recovery] ++
        beBytes 2 r.renewals ++ beBytes 2 r.warns ++ beBytes 2 r.earlyFaults ++ beBytes 2 r.outOfStep ++
        beBytes 2 r.trips ++
        (match s.toDevice.entryOf (.watch w) with
          | some e => 0x01 :: beBytes 6 e.due.toNat
          | none => [0x00, 0, 0, 0, 0, 0, 0]) ++
        if w = 0 then [byte s.linkWatch.periodCode, byte s.linkWatch.rstoWidth,
          if s.linkWatch.lockout then 0x01 else 0x00, byte s.linkWatch.consecutive]
        else [0xFF, 0xFF, 0xFF, 0xFF]))

/-- The expiry of a RUNNING watch's renewal deadline puts it into WARN with cause EXPIRED and its grace ahead (R87).
The expiry of a RELEASING watch's settle deadline completes its release (R100); of watch 0, the consecutive count and
LOCKOUT are cleared with it (R112). -/
def Obligations.RenewalAndSettleDeadlines : Prop :=
  (∀ (s : State) (e : Entry) (w : Fin 16) (r : WatchRec), s.mode = .running → s.toDevice.headDue = some e →
    e.owner = .watch w → s.watches[w] = some r → r.state = .running →
    let phase : Phase := match r.source with
      | .link => .opened
      | .line n a => if s.inputs[n].filtered = a then .half else .opened
    exec .renewalDeadlineExpiry s = .next (s.become
      ((Device.insertEntry (.watch w) (s.elapsed + r.grace) none
        { s.toDevice.takeOwner (.watch w) with watches := s.watches.set w (some { r with
            state := .warn, warns := min (r.warns + 1) 65535, phase := phase }) }).notify
        (.watchWarn w .expired)).pump)) ∧
  ∀ (s : State) (e : Entry) (w : Fin 16) (r : WatchRec), s.mode = .running → s.toDevice.headDue = some e →
    e.owner = .watch w → s.watches[w] = some r → r.state = .releasing →
    let d : Device := Device.insertEntry (.watch w) (s.elapsed + r.period) none
      (Device.dropHolds w r.holdSet { s.toDevice.takeOwner (.watch w) with
        watches := s.watches.set w (some { r with
          state := .running, recovery := 0, lastRenewal := some s.elapsed }) })
    exec .settleDeadlineExpiry s = .next (s.become
      (Device.notify (.releaseDone w) (if w = 0 then
        { d with linkWatch := { s.linkWatch with consecutive := 0, lockout := false } } else d)).pump)

/-- The expiry of a WARN watch's grace deadline trips it (R90, R91, R107): the record, the deadline, the holds, for
watch 0 the count and the RSTO pulse, the notice and the trip entry. FAULT is HIGH and each line of its hold set drives
its safe level (R92, R93, R121). -/
def Obligations.GraceDeadlineTrips : Prop :=
  ∀ (s : State) (e : Entry) (w : Fin 16) (r : WatchRec), s.mode = .running → s.toDevice.headDue = some e →
    e.owner = .watch w → s.watches[w] = some r → r.state = .warn →
    let d : Device := { s.toDevice.takeOwner (.watch w) with watches := s.watches.set w (some { r with
        state := .tripped, trips := min (r.trips + 1) 65535, recovery := 0 }) }
    let d := if w = 0 then
        Device.insertEntry .rstoPulse (s.elapsed + s.linkWatch.rstoWidth) none
          (Device.addHolds 0 r.holdSet
            (Device.insertEntry (.watch 0) (s.elapsed + r.period + r.grace) none
              { d with linkWatch := { s.linkWatch with consecutive := 1 } }))
      else d.addHolds w r.holdSet
    let d := (d.notify (.watchTripped w .expired)).recordTrip w .expired
    exec .graceDeadlineExpiry s = .next (s.become d.pump) ∧
    d.faultPin = .high ∧ (∀ n : Fin 8, r.holdSet.getLsbD n = true → d.outPin n = s.lines[n].safeLevel) ∧
    (w = 0 → d.rsto = .low) ∧
    (∀ v : Fin 16, v ≠ w → d.watches[v] = s.watches[v] ∧ d.entryOf (.watch v) = s.entryOf (.watch v))

/-- The expiry of TRIPPED watch 0's retrip deadline (R110): below three consecutive trips the deadline is inserted
again; the third sets LOCKOUT with its notice and inserts none (R111). -/
def Obligations.RetripDeadlineRetrips : Prop :=
  ∀ (s : State) (e : Entry) (r : WatchRec), s.mode = .running → s.toDevice.headDue = some e →
    e.owner = .watch 0 → s.watches[(0 : Fin 16)] = some r → r.state = .tripped →
    let d : Device := { s.toDevice.takeOwner (.watch 0) with
      watches := s.watches.set (0 : Fin 16) (some { r with trips := min (r.trips + 1) 65535, recovery := 0 })
      linkWatch := { s.linkWatch with consecutive := s.linkWatch.consecutive + 1 } }
    let d := ((d.insertEntry .rstoPulse (s.elapsed + s.linkWatch.rstoWidth) none).notify
      (.watchTripped 0 .retrip)).recordTrip 0 .retrip
    (s.linkWatch.consecutive + 1 < 3 →
      exec .retripDeadlineExpiry s = .next (s.become
        (d.insertEntry (.watch 0) (s.elapsed + r.period + r.grace) none).pump)) ∧
    (s.linkWatch.consecutive + 1 = 3 →
      exec .retripDeadlineExpiry s = .next (s.become
        (Device.notify (.linkLockout 3)
          { d with linkWatch := { s.linkWatch with consecutive := 3, lockout := true } }).pump))

/-- RESTART is judged as a CHECK_CONF of watch 0 and answered as one (R184); where it is a renewal, every waiting frame
is discarded without a trace and the restart is pending, its reply on its way (R185). So it is where RESTART has
waited, with frames behind it, and is taken as a reply leaves the reply queue. A renewing RESTART is answered
with what the renewal left (R184), another one as CHECK_CONF is (R75; log entry 29). -/
def Obligations.RestartBecomesPending : Prop :=
  (∀ (s : State) (tag : Byte) (r : WatchRec), s.ready → s.watches[(0 : Fin 16)] = some r → r.source = .link →
    r.state ≠ .dormant → r.minInterval = 0 → (∀ l, r.lastRenewal = some l → l ≤ s.elapsed) →
    ∃ d : Device,
      (r.phase = .opened →
        exec (.checkConf tag [0x00]) s = .next (s.answers d .checkConf tag (0x19 :: d.reported 0)) ∧
        exec (.restart tag []) s = .next (s.answers d .restart tag (0x19 :: d.reported 0))) ∧
      (r.phase = .half →
        exec (.checkConf tag [0x00]) s = .next (s.answers d .checkConf tag (0x00 :: d.reported 0)) ∧
        exec (.restart tag []) s = .next (s.answers
          { d with link := { s.link with receiveQueue := [], restartPending := true } } .restart tag
          (0x00 :: d.checkinFields 0)))) ∧
  ∀ (s : State) (tag : Byte) (r : WatchRec) (f q : Frame) (replies waiting : List Frame), s.mode = .running →
    s.link.transmitting = some f → s.link.replyQueue = q :: replies → replies.length < 4 →
    s.link.receiveQueue = Request.restart.frame tag [] :: waiting → s.link.restartPending = false →
    s.watches[(0 : Fin 16)] = some r → r.source = .link → r.state ≠ .dormant → r.minInterval = 0 →
    (∀ l, r.lastRenewal = some l → l ≤ s.elapsed) → r.phase = .half →
    let s' : State := s.become { s.toDevice with link :=
      { s.link with transmitting := some q, replyQueue := replies, receiveQueue := [] } }
    ∃ d : Device,
      exec (.checkConf tag [0x00]) s' = .next (s'.answers d .checkConf tag (0x00 :: d.reported 0)) ∧
      exec .transmitComplete s = .next (s'.answers
        { d with link := { s'.link with restartPending := true } } .restart tag (0x00 :: d.checkinFields 0))

/-! ### Output lines -/

/-- LINE_SET sets the shadow of an unbound line, the pin following where no holder stands (R130); LINE_CONFIG of an
unlocked, unbound, unheld line sets both levels and rests it (R132); what refuses each (R130, R131). -/
def Obligations.LineSetAndConfig : Prop :=
  (∀ (s : State) (tag n a b : Byte) (p : List Byte), s.ready →
    let refused (q : Request) (p : List Byte) (st : Byte) :=
      exec (q.command tag p) s = .next (s.answers s.toDevice q tag (st :: p.take 1))
    (p.length ≠ 2 → refused .lineSet p 0x11) ∧ (p.length ≠ 3 → refused .lineConfig p 0x11) ∧
    (7 < n.toNat ∨ 1 < a.toNat → refused .lineSet [n, a] 0x12) ∧
    (7 < n.toNat ∨ 1 < a.toNat ∨ 1 < b.toNat → refused .lineConfig [n, a, b] 0x12)) ∧
  ∀ (s : State) (tag a b : Byte) (n : Fin 8) (x y : Level), s.ready → a = levelCode x → b = levelCode y →
    let l := s.lines[n]
    let locked := ∃ (w : Fin 16) (r : WatchRec), s.watches[w] = some r ∧ r.state ≠ .dormant ∧ r.holdSet.getLsbD n = true
    let held := l.watchHolders ≠ 0 ∨ l.hostHolder = true
    let active := if l.restLevel = .low then Level.high else Level.low
    (l.binding = none →
      exec (.lineSet tag [byte n, a]) s = .next (s.answers
        { s.toDevice with lines := s.lines.set n { l with shadow := if x = .high then .active else .rest } } .lineSet tag
        [0x00, byte n, a, levelCode (if held then l.safeLevel else if x = .high then active else l.restLevel)])) ∧
    (l.binding ≠ none →
      exec (.lineSet tag [byte n, a]) s = .next (s.answers s.toDevice .lineSet tag [0x15, byte n])) ∧
    (locked → exec (.lineConfig tag [byte n, a, b]) s = .next (s.answers s.toDevice .lineConfig tag [0x16, byte n])) ∧
    (¬locked → l.binding ≠ none →
      exec (.lineConfig tag [byte n, a, b]) s = .next (s.answers s.toDevice .lineConfig tag [0x15, byte n])) ∧
    (¬locked → l.binding = none → held →
      exec (.lineConfig tag [byte n, a, b]) s = .next (s.answers s.toDevice .lineConfig tag [0x18, byte n])) ∧
    (¬locked → l.binding = none → ¬held →
      exec (.lineConfig tag [byte n, a, b]) s = .next (s.answers
        { s.toDevice with lines := s.lines.set n { l with restLevel := x, safeLevel := y, shadow := .rest } } .lineConfig
        tag [0x00, byte n, a, b, a]))

/-- LINE_HOLD adds HOST to the holders of the lines named and LINE_UNHOLD removes it, touching nothing else (R133,
R134): a held line drives its safe level and one with no holder its shadow level (R121). -/
def Obligations.LineHoldAndUnhold : Prop :=
  ∀ (s : State) (tag set : Byte) (hold : Bool), s.ready →
    let q : Request := if hold then .lineHold else .lineUnhold
    let lines : Vector LineRec 8 := Vector.ofFn (fun n : Fin 8 =>
      if set.getLsbD n then { s.lines[n] with hostHolder := hold } else s.lines[n])
    let d : Device := { s.toDevice with lines := lines }
    (∀ p : List Byte, p.length ≠ 1 → exec (q.command tag p) s = .next (s.answers s.toDevice q tag [0x11])) ∧
    ∃ host any : Byte,
      exec (q.command tag [set]) s = .next (s.answers d q tag [0x00, host, any]) ∧
      (∀ n : Fin 8, host.getLsbD n = lines[n].hostHolder) ∧
      (∀ n : Fin 8, any.getLsbD n = decide (lines[n].watchHolders ≠ 0 ∨ lines[n].hostHolder = true)) ∧
      ∀ n : Fin 8, d.outPin n =
        if lines[n].watchHolders ≠ 0 ∨ lines[n].hostHolder = true then s.lines[n].safeLevel
        else match s.lines[n].shadow with
          | .rest => s.lines[n].restLevel
          | .active => if s.lines[n].restLevel = .low then .high else .low

/-- LINE_QUERY (R135) and INPUT_QUERY (R150) report their records by Table 11-10 and change no state; a wrong length
and a line above 7 are refused. -/
def Obligations.LineAndInputQueriesReport : Prop :=
  (∀ (s : State) (tag n : Byte) (p : List Byte), s.ready → ∀ q ∈ [Request.lineQuery, .inputQuery],
    (p.length ≠ 1 → exec (q.command tag p) s = .next (s.answers s.toDevice q tag (0x11 :: p.take 1))) ∧
    (7 < n.toNat → exec (q.command tag [n]) s = .next (s.answers s.toDevice q tag [0x12, n]))) ∧
  ∀ (s : State) (tag : Byte) (n : Fin 8), s.ready →
    let l := s.lines[n]
    let i := s.inputs[n]
    ((∀ w : Fin 16, (s.toDevice.locking n).getLsbD w = true ↔
        ∃ r, s.watches[w] = some r ∧ r.state ≠ .dormant ∧ r.holdSet.getLsbD n = true) ∧
      exec (.lineQuery tag [byte n]) s = .next (s.answers s.toDevice .lineQuery tag
        ([0x00, byte n, levelCode l.restLevel, levelCode l.safeLevel, l.shadow.code, levelCode (s.toDevice.outPin n),
            (match l.binding with
              | some t => byte t
              | none => (0xFF : Byte))] ++
          beBytes 2 l.watchHolders.toNat ++ [(if l.hostHolder then 0x01 else 0x00 : Byte)] ++
          (match l.pulseEnd with
            | some t => 0x01 :: beBytes 6 t ++ beBytes 2 (t - s.elapsed)
            | none => [0x00, 0, 0, 0, 0, 0, 0, 0, 0]) ++ beBytes 2 (s.toDevice.locking n).toNat ++
          [levelCode s.toDevice.rsto,
            (match s.toDevice.entryOf .rstoPulse with
              | some e => byte (e.due.toNat - s.elapsed)
              | none => (0xFF : Byte)),
            levelCode s.toDevice.faultPin]))) ∧
    exec (.inputQuery tag [byte n]) s = .next (s.answers s.toDevice .inputQuery tag
      ([0x00, byte n, levelCode i.raw, levelCode i.filtered, byte i.run, byte i.width] ++
        (match i.role with
          | .none => [0x00, 0xFF, 0xFF, 0xFF]
          | .checkin w => [0x01, byte w, 0xFF, 0xFF]
          | .trigger t e a => [0x02, byte t, e.code, a.code]
          | .count t => [0x03, byte t, 0xFF, 0xFF]) ++ beBytes 2 i.edges))

/-- The hand-over of a PULSE entry rests its line (R127), and that of the RSTO_PULSE entry ends the RSTO pulse (R136),
with no other work; RSTO is then HIGH. -/
def Obligations.PulsesEnd : Prop :=
  ∀ (s : State) (e : Entry), s.mode = .running → s.toDevice.headDue = some e →
    (∀ n : Fin 8, e.owner = .pulse n →
      exec .pulseEnd s = .next (s.become (Device.pump { s.toDevice.takeOwner (.pulse n) with
        lines := s.lines.set n { s.lines[n] with shadow := .rest, pulseEnd := none } }))) ∧
    (e.owner = .rstoPulse →
      exec .rstoPulseEnd s = .next (s.become (s.toDevice.takeOwner .rstoPulse).pump) ∧
      (s.toDevice.takeOwner .rstoPulse).rsto = .high)

/-! ### Input lines -/

/-- INPUT_CONFIG sets role and filter width of an unclaimed line and nothing else (R148); a claimed line is IN_USE, a
FREE timer NO_SUCH; BAD_ARG is a line above 7, a role code other than NONE and TRIGGER, a width above 15, and for
TRIGGER a timer above 23 and an edge or act without a code (R147). -/
def Obligations.InputConfigSetsRole : Prop :=
  ∀ (s : State) (tag width : Byte) (n : Fin 8) (t : Fin 24) (e : Edge) (a : TriggerAct), s.ready →
    let i := s.inputs[n]
    let claimed := (∃ w, i.role = .checkin w) ∨ ∃ u, i.role = .count u
    let plain := [byte n, 0x00, width]
    let trigger := [byte n, 0x02, width, byte t, e.code, a.code]
    let refused (p : List Byte) (st : Byte) :=
      exec (.inputConfig tag p) s = .next (s.answers s.toDevice .inputConfig tag [st, byte n])
    let set (role : Role) : Device :=
      { s.toDevice with inputs := s.inputs.set n { i with role := role, width := width.toNat } }
    (∀ m timer edge act : Byte, 7 < m.toNat → ∀ p ∈ [[m, 0x00, width], [m, 0x02, width, timer, edge, act]],
      exec (.inputConfig tag p) s = .next (s.answers s.toDevice .inputConfig tag [0x12, m])) ∧
    (∀ timer edge act : Byte, 23 < timer.toNat ∨ 2 < edge.toNat ∨ 1 < act.toNat →
      refused [byte n, 0x02, width, timer, edge, act] 0x12) ∧
    (15 < width.toNat → refused plain 0x12 ∧ refused trigger 0x12) ∧
    (∀ code : Byte, code ≠ 0x00 → code ≠ 0x02 → refused [byte n, code, width] 0x12) ∧
    (width.toNat ≤ 15 → s.timers[t] = none → refused trigger 0x13) ∧
    (width.toNat ≤ 15 → claimed → refused plain 0x14 ∧ (s.timers[t].isSome → refused trigger 0x14)) ∧
    (width.toNat ≤ 15 → ¬claimed →
      exec (.inputConfig tag plain) s = .next (s.answers (set .none) .inputConfig tag
        [0x00, byte n, 0x00, 0xFF, 0xFF, 0xFF, width, levelCode i.filtered]) ∧
      (s.timers[t].isSome →
        exec (.inputConfig tag trigger) s = .next (s.answers (set (.trigger t e a)) .inputConfig tag
          [0x00, byte n, 0x02, byte t, e.code, a.code, width, levelCode i.filtered])))

/-- A sample runs every line's filter once, whatever the order of the lines and whatever their edges set going (R140,
R141). An edge is delivered within the sample by the role of its line, with the past-due hand-overs it causes (R142):
said for a sample of one edge, with the transmitter busy. With the sample of the present tick taken and nothing due,
the sample is the next tick's (log entry 2, the model's choice). -/
def Obligations.SampleRunsEveryFilter : Prop :=
  ∀ (s : State) (levels : BitVec 8) (order : List (Fin 8)), s.mode = .running → s.link.receiveQueue = [] →
    let level (n : Fin 8) : Level := if levels.getLsbD n then .high else .low
    let edge (n : Fin 8) : Prop := level n ≠ s.inputs[n].filtered ∧ s.inputs[n].width + 1 ≤ s.inputs[n].run + 1
    let sampled (n : Fin 8) : InputRec :=
      let i := s.inputs[n]
      if level n = i.filtered then { i with raw := level n, run := 0 }
      else if i.width + 1 ≤ i.run + 1 then
        { i with raw := level n, filtered := level n, run := 0, edges := (i.edges + 1) % 65536 }
      else { i with raw := level n, run := i.run + 1 }
    (s.sampleOwed = true →
      (∃ u, exec (.inputSample levels order) s = .next u ∧ u.sampleOwed = false ∧ u.elapsed = s.elapsed ∧
        ∀ n : Fin 8, u.inputs[n] = sampled n) ∧
      ∀ n : Fin 8, edge n → (∀ m : Fin 8, m ≠ n → ¬edge m) → s.link.transmitting.isSome →
        let d : Device := { s.toDevice with sampleOwed := false, inputs := Vector.ofFn sampled }
        let delivered := d.deliverEdge s.inputs[n].role (level n)
        exec (.inputSample levels order) s = .next (s.become delivered.drainPastDue) ∧
        ((∀ e ∈ delivered.deadlines, e.pastDue = false) →
          exec (.inputSample levels order) s = .next (s.become delivered))) ∧
    (s.sampleOwed = false → s.toDevice.headDue = none → s.elapsed < 281474976710655 →
      exec (.inputSample levels order) s =
        exec (.inputSample levels order)
          (s.become { s.toDevice with elapsed := s.elapsed + 1, handed := [], sampleOwed := true }))

/-- An edge acts by the role of its line (R142, R144 to R146): on no one; as a count of a RUNNING timer where it
qualifies, the last of which expires it (R49, R61); as a START trigger where it qualifies, by the state of its timer
(R55, R56), or as a STOP (R34); on a FREE timer as nothing; on a DORMANT watch as a change of phase; on an active
watch's confirm as an early candidate or as a renewal, spelled out for RUNNING. -/
def Obligations.EdgesActByRole : Prop :=
  ∀ (d : Device) (level : Level) (t : Fin 24) (w : Fin 16) (n : Fin 8) (e : Edge) (r : TimerRec) (x : WatchRec)
    (active : Level),
    let qualifies := (e = .rise ∧ level = .high) ∨ (e = .fall ∧ level = .low) ∨ e = .both
    let putTimer (r' : TimerRec) : Device := { d with timers := d.timers.set t (some r') }
    let putWatch (x' : WatchRec) : Device := { d with watches := d.watches.set w (some x') }
    d.deliverEdge .none level = d ∧
    (¬qualifies → ∀ act, d.deliverEdge (.trigger t e act) level = d) ∧
    (d.timers[t] = none → ∀ act, d.deliverEdge (.trigger t e act) level = d) ∧
    (qualifies → d.timers[t] = some r →
      let start := d.deliverEdge (.trigger t e .start) level
      let stop := d.deliverEdge (.trigger t e .stop) level
      let begun := putTimer { r with state := .running, remaining := r.period }
      (r.state = .paused → start = d) ∧
      (r.state = .idle ∨ r.state = .running →
        (∀ sc, r.kind = .relative → r.source = .time sc →
          start = begun.insertEntry (.timer t) (d.elapsed + r.period * sc.ms) none) ∧
        (∀ due, r.kind = .absolute due → start = begun.insertEntry (.timer t) (due - d.wallOffset) (some due)) ∧
        (r.kind = .relative → (∀ sc, r.source ≠ .time sc) → start = begun)) ∧
      (r.state = .idle → stop = d) ∧
      (r.state ≠ .idle → stop =
        { putTimer { r with state := .idle, remaining := r.period } with
          lines := match r.output with
            | some a => d.lines.set a.line { d.lines[a.line] with shadow := .rest, pulseEnd := none }
            | none => d.lines
          deadlines := d.deadlines.filter (fun f => f.owner ≠ .timer t ∧
            ∀ a, r.output = some a → f.owner ≠ .pulse a.line) })) ∧
    (d.timers[t] = some r → r.source = .input n e →
      (¬qualifies ∨ r.state ≠ .running → d.deliverEdge (.count t) level = d) ∧
      (qualifies → r.state = .running → 2 ≤ r.remaining →
        d.deliverEdge (.count t) level = putTimer { r with remaining := r.remaining - 1 }) ∧
      (qualifies → r.state = .running → r.remaining = 1 → r.kind = .relative → r.trigger = none →
        (∀ (y : Fin 24) ry, d.timers[y] = some ry → ry.source ≠ .parent t) →
        let fires := (r.fires + 1) % 4294967296
        d.deliverEdge (.count t) level =
          (putTimer { r with
            fires := fires, state := if r.mode = .once then .idle else .running
            remaining := r.period }).actions t r fires false 0)) ∧
    (d.watches[w] = some x → x.source = .line n active →
      (level = active → d.deliverEdge (.checkin w) level = putWatch { x with phase := .half }) ∧
      (level ≠ active → x.state = .dormant →
        d.deliverEdge (.checkin w) level = putWatch { x with phase := .opened }) ∧
      (level ≠ active → x.state = .running → (∀ l, x.lastRenewal = some l → l + x.minInterval ≤ d.elapsed) →
        d.deliverEdge (.checkin w) level =
          (putWatch { x with
            phase := .opened, lastRenewal := some d.elapsed
            renewals := min (x.renewals + 1) 65535 }).insertEntry (.watch w) (d.elapsed + x.period) none) ∧
      (∀ l, level ≠ active → x.state = .running → x.lastRenewal = some l → d.elapsed < l + x.minInterval →
        d.inputs[n].filtered = level →
        d.deliverEdge (.checkin w) level =
          ((putWatch { x with
            phase := .opened, state := .warn, earlyFaults := min (x.earlyFaults + 1) 65535
            warns := min (x.warns + 1) 65535 }).insertEntry (.watch w) (d.elapsed + x.grace) none).notify
            (.watchWarn w .early)) ∧
      (level ≠ active → x.state ≠ .dormant →
        ((∀ l, x.lastRenewal = some l → l + x.minInterval ≤ d.elapsed) →
          d.deliverEdge (.checkin w) level = d.renew w { x with phase := .opened }) ∧
        (∀ l, x.lastRenewal = some l → d.elapsed < l + x.minInterval →
          d.deliverEdge (.checkin w) level = d.earlyCandidate w { x with phase := .opened })))

/-! ### Notices and fault record -/

/-- NOTICE_ACK removes the SENT notice of the number given and every older one (R162); a number no SENT notice carries
is answered STALE_ACK and changes nothing. The hand-over of the resend deadline marks every SENT notice and inserts the
deadline again; with none SENT it does nothing (R161). -/
def Obligations.NoticesAcknowledgedAndResent : Prop :=
  (∀ (s : State) (tag seq : Byte), s.ready →
    ((∀ n ∈ s.notices.queue, ∀ mark, n.state ≠ .sent seq.toNat mark) →
      exec (.noticeAck tag [seq]) s = .next (s.answers s.toDevice .noticeAck tag
        [0x1C, 0x00, byte (s.notices.queue.countP Notice.isSent), byte s.notices.queue.length])) ∧
    (∀ (older newer : List Notice) (n : Notice) (mark : Bool), s.notices.queue = older ++ n :: newer →
      n.state = .sent seq.toNat mark → (∀ o ∈ older, ∀ m, o.state ≠ .sent seq.toNat m) →
      let d : Device := { s.toDevice with notices := { s.notices with queue := newer } }
      exec (.noticeAck tag [seq]) s = .next (s.answers
        (if 0 < newer.countP Notice.isSent then d.insertEntry .resend (s.elapsed + 250) none
          else { d with deadlines := s.deadlines.filter (fun e => e.owner ≠ .resend) }) .noticeAck tag
        [0x00, byte (older.length + 1), byte (newer.countP Notice.isSent), byte newer.length]))) ∧
  ∀ (s : State) (e : Entry), s.mode = .running → s.toDevice.headDue = some e → e.owner = .resend →
    (0 < s.notices.queue.countP Notice.isSent →
      exec .resendDeadlineExpiry s = .next (s.become
        (Device.insertEntry .resend (s.elapsed + 250) none
          { s.toDevice.takeOwner .resend with notices := { s.notices with
              queue := s.notices.queue.map (fun n => match n.state with
                | .sent seq _ => { n with state := .sent seq true }
                | .unsent => n) } }).pump)) ∧
    (s.notices.queue.countP Notice.isSent = 0 →
      exec .resendDeadlineExpiry s = .next (s.become (s.toDevice.takeOwner .resend).pump))

/-- Appending a notice (R155, R156): with room it is the newest and takes the pending loss; to a full queue a ROUTINE
newcomer is dropped, an ALERT or ALARM one displaces the newest UNSENT notice of a lower class, or is dropped where
there is none, and every loss is counted. The queue never exceeds 32, and no loss goes uncounted below saturation
(R157). -/
def Obligations.AppendKeepsCountOfLosses : Prop :=
  ∀ (q : NoticeQueue) (body : NoticeBody) (instant : Nat),
    let losses (x : NoticeQueue) := x.pendingLoss + (x.queue.map Notice.lostBefore).sum
    (q.queue.length < 32 →
      q.append body instant = { q with
        queue := q.queue ++ [Notice.mk body instant q.pendingLoss .unsent 0], pendingLoss := 0 }) ∧
    (q.queue.length = 32 →
      (body.cls = .routine ∨
          (body.cls = .alert ∧ ∀ n ∈ q.queue, n.state = .unsent → n.body.cls ≠ .routine) ∨
          (body.cls = .alarm ∧ ∀ n ∈ q.queue, n.state = .unsent → n.body.cls ≠ .routine ∧ n.body.cls ≠ .alert) →
        q.append body instant = { q with pendingLoss := min (q.pendingLoss + 1) 65535 }) ∧
      (∀ c : NoticeClass, ∀ older newer : List Notice, ∀ gone : Notice,
        (c = .routine ∧ body.cls ≠ .routine) ∨
          (c = .alert ∧ body.cls = .alarm ∧ ∀ n ∈ q.queue, n.state = .unsent → n.body.cls ≠ .routine) →
        q.queue = older ++ gone :: newer → gone.state = .unsent → gone.body.cls = c →
        (∀ n ∈ newer, n.state = .unsent → n.body.cls ≠ c) →
        q.append body instant = { q with
          queue :=
            older ++ newer ++ [Notice.mk body instant (min (q.pendingLoss + (1 + gone.lostBefore)) 65535) .unsent 0]
          pendingLoss := 0 }) ∧
      (q.append body instant).queue.length = 32) ∧
    (q.queue.length ≤ 32 → losses q < 65535 →
      (q.append body instant).queue.length + losses (q.append body instant) = q.queue.length + losses q + 1)

/-- FAULT_QUERY reports the fault record by Table 11-11 and changes no state (R117); FAULT_CLEAR empties its entries,
keeps the rest and tells how many it removed (R118); each refuses a payload. A trip entry is appended behind at most
three newer ones; the oldest of four is removed first (R114). -/
def Obligations.FaultRecordReportedAndKept : Prop :=
  (∀ (s : State) (tag : Byte), s.ready →
    (∀ q ∈ [Request.faultQuery, .faultClear], ∀ p : List Byte, p ≠ [] →
      exec (q.command tag p) s = .next (s.answers s.toDevice q tag [0x11])) ∧
    exec (.faultQuery tag []) s = .next (s.answers s.toDevice .faultQuery tag
      ([0x00, byte (s.fault.lastCause.code.toNat * 16 + s.fault.entries.length)] ++ beBytes 2 s.fault.generation ++
        s.fault.entries.flatMap (fun e =>
          [byte (e.watch.val * 16 + e.cause.code.toNat),
            byte (min ((s.fault.generation + 65536 - e.generation) % 65536) 255)] ++ beBytes 6 e.wall ++
          beBytes 5 (min e.elapsed 1099511627775)))) ∧
    exec (.faultClear tag []) s = .next (s.answers
      { s.toDevice with fault := { s.fault with entries := [] } } .faultClear tag
      [0x00, byte s.fault.entries.length])) ∧
  ∀ (d : Device) (w : Fin 16) (cause : Cause), d.fault.entries.length ≤ 4 →
    0 ≤ d.elapsed + d.wallOffset → d.elapsed + d.wallOffset < 281474976710656 →
    (d.recordTrip w cause).fault = { d.fault with
      entries := d.fault.entries.drop (d.fault.entries.length - 3) ++
        [{ watch := w, cause := cause, wall := (d.elapsed + d.wallOffset).toNat, elapsed := d.elapsed,
           generation := d.fault.generation }] }

/-! ### Reception and transmission -/

/-- Bytes outside a frame and frames that fail (R170 to R173): a byte that is not C3h is counted as noise, C3h begins a
frame, a length above 56 abandons it, other bytes are its content, a wrong CRC discards it, a gap abandons it; in
HUNTING no gap is measured. -/
def Obligations.ReceptionFaultsCounted : Prop :=
  ∀ (s : State) (b : Byte), s.mode = .running →
    let c := s.link.counters
    let port (l : LinkPort) : State := s.become { s.toDevice with link := l }
    (s.link.assembly = .hunting →
      exec .startByte s = .next (port { s.link with assembly := .assembling [] }) ∧ exec .gapTimeout s = .next s ∧
      (b ≠ 0xC3 → exec (.noiseByte b) s =
        .next (port { s.link with counters := { c with noise := min (c.noise + 1) 65535 } }))) ∧
    (s.link.assembly = .assembling [] →
      (56 < b.toNat → exec (.badLengthAbandon b) s = .next (port { s.link with
        assembly := .hunting, counters := { c with badLength := min (c.badLength + 1) 65535 } })) ∧
      (b.toNat ≤ 56 → exec (.frameContentByte b) s = .next (port { s.link with assembly := .assembling [b] }))) ∧
    (∀ (len : Byte) (more : List Byte), s.link.assembly = .assembling (len :: more) →
      (more.length + 2 < len.toNat + 5 →
        exec (.frameContentByte b) s = .next (port { s.link with assembly := .assembling (len :: more ++ [b]) })) ∧
      (∀ hi : Byte, ∀ content : List Byte, more = content ++ [hi] → content.length = len.toNat + 2 →
        crc16 (len :: content) ≠ hi ++ b → exec (.frameReceived b) s = .next (port { s.link with
          assembly := .hunting, counters := { c with badCrc := min (c.badCrc + 1) 65535 } }))) ∧
    (∀ got, s.link.assembly = .assembling got →
      exec .gapTimeout s = .next (port { s.link with
        assembly := .hunting, counters := { c with gap := min (c.gap + 1) 65535 } }))

/-- The end of a frame (R180, R181): the oldest reply goes next; with none waiting and no restart pending, the oldest
marked SENT notice again, or else the oldest UNSENT one while fewer than four are SENT (R158 to R160). Where it is the
end of the RESTART reply, the reset begins at that instant (R185; that the table's row RESTART_RESET is its end is log
entry 19, and that a frame of another kind there frees the transmitter, which no run meets, is R181 read alone). A
reply that leaves a full reply queue makes room for one frame: the dispatcher takes the oldest one waiting, as a
request that arrives then (R176). -/
def Obligations.TransmitCompleteArbitrates : Prop :=
  (∀ (s : State) (f q : Frame) (replies waiting : List Frame) (r : Request) (tag : Byte) (p : List Byte),
    s.mode = .running → s.link.transmitting = some f → s.link.replyQueue = q :: replies → replies.length = 3 →
    s.link.restartPending = false → s.link.receiveQueue = r.frame tag p :: waiting → r ≠ .restart →
    ∃ u : State,
      exec (r.command tag p) (s.become { s.toDevice with link :=
        { s.link with transmitting := some q, replyQueue := replies, receiveQueue := [] } }) = .next u ∧
      exec .transmitComplete s =
        .next (u.become { u.toDevice with link := { u.link with receiveQueue := waiting } })) ∧
  ∀ (s : State) (f : Frame), s.mode = .running → s.link.transmitting = some f → s.link.receiveQueue = [] →
    (∀ q rest, s.link.replyQueue = q :: rest →
      exec .transmitComplete s = .next (s.become { s.toDevice with link :=
        { s.link with transmitting := some q, replyQueue := rest } })) ∧
    (s.link.replyQueue = [] → s.link.restartPending = true →
      (f.kind = 0x83 → ∃ t : State, exec .transmitComplete s = .next t ∧ t.toDevice.inResetOf .restart ∧
        t.fault = s.fault ∧ t.pending = s.pending) ∧
      (f.kind ≠ 0x83 →
        exec .transmitComplete s = .next (s.become { s.toDevice with link := { s.link with transmitting := none } }))) ∧
    (s.link.replyQueue = [] → s.link.restartPending = false →
      (∀ older n newer seq, s.notices.queue = older ++ n :: newer → n.state = .sent seq true →
        (∀ o ∈ older, o.isMarked = false) →
        let n' := { n with state := .sent seq false, attempts := min (n.attempts + 1) 65535 }
        exec .transmitComplete s = .next (s.become { s.toDevice with
          notices := { s.notices with queue := older ++ n' :: newer }
          link := { s.link with transmitting := some n'.frame } })) ∧
      ((∀ n ∈ s.notices.queue, n.isMarked = false) → s.notices.queue.countP Notice.isSent < 4 →
        ∀ older n newer, s.notices.queue = older ++ n :: newer → n.state = .unsent →
          (∀ o ∈ older, o.isSent = true) →
          let n' := { n with state := .sent s.notices.nextSeq false, attempts := 1 }
          let d : Device := { s.toDevice with
            notices := { s.notices with queue := older ++ n' :: newer, nextSeq := (s.notices.nextSeq + 1) % 256 }
            link := { s.link with transmitting := some n'.frame } }
          exec .transmitComplete s = .next (s.become
            (if (s.toDevice.entryOf .resend).isSome then d else d.insertEntry .resend (s.elapsed + 250) none))) ∧
      ((∀ n ∈ s.notices.queue, n.isMarked = false) →
        4 ≤ s.notices.queue.countP Notice.isSent ∨ (∀ n ∈ s.notices.queue, n.isSent = true) →
        exec .transmitComplete s =
          .next (s.become { s.toDevice with link := { s.link with transmitting := none } })))

/-! ### Resets -/

/-- The end of each reset (R17, R18, R42, R85, R115, R119, R138, R151, R166, R167, R187): the device is fresh, with the
fault record that its cause leaves. RESTART_RESET ends the reset in progress, or is the whole of it where the RESTART
reply is still in transmission (R185; log entry 19). -/
def Obligations.ResetsLeaveFreshDevice : Prop :=
  ∀ (s : State) (pins : BitVec 8) (spd : Level),
    let cleared : FaultRecord := { entries := [], lastCause := .powerOn, generation := 0 }
    exec (.powerOn .high pins spd) s = .next (s.become (freshDevice pins spd cleared)) ∧
    (s.mode = .held .restart ∨
        (s.mode = .running ∧ s.link.restartPending = true ∧ s.link.replyQueue = [] ∧
          ∃ f, s.link.transmitting = some f ∧ f.kind = 0x83) →
      exec (.restartReset pins spd) s = .next (s.become (freshDevice pins spd
        { s.fault with lastCause := .restart, generation := (s.fault.generation + 1) % 65536 }))) ∧
    (s.mode = .held .pin →
      exec (.rstNRelease pins spd) s = .next (s.become (freshDevice pins spd
        { s.fault with lastCause := .pin, generation := (s.fault.generation + 1) % 65536 }))) ∧
    (s.mode = .held .powerOn →
      exec (.rstNRelease pins spd) s = .next (s.become (freshDevice pins spd cleared)))

/-- RST_N going LOW holds the device in a PIN reset (R116, R138, R187): the fault record is kept, OUT0 to OUT7 and
FAULT are LOW and RSTO and TXD are HIGH; until RST_N returns HIGH or supply is applied again no command and no empty step does
anything. Supply applied with RST_N LOW holds it likewise, the fault record emptied. RST_N going LOW within a RESTART
reset makes a second reset, the first one recorded (log entry 19); within that reset no command acts but those that end
or replace it. That the blocks stand at their reset values from the start of a reset, and the record is emptied before
its end, is log entry 13; that no command acts meanwhile is log entry 4: both the model's choices. -/
def Obligations.RstNHoldsDevice : Prop :=
  (∀ (s : State) (c : Instr) (pins : BitVec 8) (spd : Level),
    ((s.mode = .running ∨ s.mode = .held .restart) ∧ c = .rstNAssert) ∨ c = .powerOn .low pins spd →
    ∃ (cause : ResetCause) (t : State), exec c s = .next t ∧ t.toDevice.inResetOf cause ∧ t.pending = s.pending ∧
      (c = .rstNAssert → cause = .pin ∧ (s.mode = .running → t.fault = s.fault) ∧
        (s.mode = .held .restart →
          t.fault = { s.fault with lastCause := .restart, generation := (s.fault.generation + 1) % 65536 })) ∧
      (c ≠ .rstNAssert → cause = .powerOn ∧ t.fault = { entries := [], lastCause := .powerOn, generation := 0 })) ∧
  ∀ (s : State) (cause : ResetCause), s.mode = .held cause →
    (∀ c : Instr, (∀ r p d, c ≠ .powerOn r p d) → (∀ p d, c ≠ .rstNRelease p d) → (∀ p d, c ≠ .restartReset p d) →
      c ≠ .rstNAssert → exec c s = .next s) ∧
    (cause ≠ .restart → exec .rstNAssert s = .next s ∧ (∀ p d, exec (.restartReset p d) s = .next s) ∧
      (s.pending = [] → step s = .next s)) ∧
    (cause = .restart → ∀ p d, exec (.rstNRelease p d) s = .next s)

/-! ### What every step keeps -/

/-- Every invariant below holds right after reset. -/
def Obligations.InvariantsHoldAtReset : Prop :=
  let d := State.reset.toDevice
  d.listOrdered ∧ d.settled ∧ d.windowKept ∧ d.holdersKept ∧ d.timersScheduled ∧ d.watchesScheduled ∧
    d.linkWatchKept ∧ d.chainsBounded ∧ d.claimsKept ∧ d.pulsesKept ∧ d.withinCapacity

/-- Every step keeps the deadline list in order with one entry an owner, so that it never exceeds 50 entries (R8). -/
def Obligations.DeadlineListStaysOrdered : Prop :=
  (∀ s t : State, s.toDevice.listOrdered → step s = .next t → t.toDevice.listOrdered) ∧
  ∀ d : Device, d.listOrdered → d.deadlines.length ≤ 50

/-- No step leaves a past-due hand-over outstanding (R13, R14, R16). -/
def Obligations.PastDueHandOversComplete : Prop :=
  ∀ s t : State, s.toDevice.settled → step s = .next t → t.toDevice.settled

/-- Every step keeps the send window and the capacity of the notice queue (R154). -/
def Obligations.NoticeWindowKept : Prop :=
  ∀ s t : State, s.toDevice.windowKept → step s = .next t → t.toDevice.windowKept

/-- Every step keeps the holders of every line those that the watch table gives (R92). -/
def Obligations.HoldersFollowWatches : Prop :=
  ∀ s t : State, s.toDevice.holdersKept → step s = .next t → t.toDevice.holdersKept

/-- Every step keeps an entry for each RUNNING TIME timer and for no other (R20). Every step keeps an entry for each
watch that is to have one (R65), and watch 0 within its table (R105, R111). -/
def Obligations.EntriesFollowTimersAndWatches : Prop :=
  (∀ s t : State, s.toDevice.timersScheduled → step s = .next t → t.toDevice.timersScheduled) ∧
  ∀ s t : State, s.toDevice.watchesScheduled → s.toDevice.linkWatchKept → step s = .next t →
    t.toDevice.watchesScheduled ∧ t.toDevice.linkWatchKept

/-- Every step keeps the chains free of loops and no deeper than four, every parent defined (R22, R28, R40). -/
def Obligations.ChainsStayBounded : Prop :=
  ∀ s t : State, s.toDevice.chainsBounded → step s = .next t → t.toDevice.chainsBounded

/-- Every step keeps bindings and input claims with the definitions that hold them (R23, R123, R143), and the pulses of
bound lines with their entries (R126), where the list is in order and its absolute entries are timers' (R7, R8), which
DeadlineListStaysOrdered and PastDueHandOversComplete keep. -/
def Obligations.ClaimsStayConsistent : Prop :=
  ∀ s t : State, s.toDevice.listOrdered → s.toDevice.settled → s.toDevice.claimsKept → s.toDevice.pulsesKept →
    s.toDevice.withinCapacity → step s = .next t →
    t.toDevice.claimsKept ∧ t.toDevice.pulsesKept ∧ t.toDevice.withinCapacity

/-- No request and no byte received sets, steps or corrects elapsed time (R1), and none but TIME_SET the wall offset.
-/
def Obligations.RequestsLeaveElapsedTime : Prop :=
  ∀ (s t : State) (r : Request) (tag : Byte) (p : List Byte), exec (r.command tag p) s = .next t →
    t.elapsed = s.elapsed ∧ (r ≠ .timeSet → s.link.receiveQueue = [] → t.wallOffset = s.wallOffset)
end

