-- ==== Sys2Proof/Laws/State.lean ====
section
/-! SUPPORT. One lemma per field of the device per update: what an update leaves, so that no proof unfolds a record
update. -/

namespace Sys2Proof.Machine

variable (d : Device)

@[simp] theorem Device.setTimer_mode (t : Fin 24) (r : Option TimerRec) : (Device.setTimer t r d).mode = d.mode := rfl
@[simp] theorem Device.setTimer_elapsed (t : Fin 24) (r : Option TimerRec) : (Device.setTimer t r d).elapsed = d.elapsed := rfl
@[simp] theorem Device.setTimer_wallOffset (t : Fin 24) (r : Option TimerRec) : (Device.setTimer t r d).wallOffset = d.wallOffset := rfl
@[simp] theorem Device.setTimer_deadlines (t : Fin 24) (r : Option TimerRec) : (Device.setTimer t r d).deadlines = d.deadlines := rfl
@[simp] theorem Device.setTimer_handed (t : Fin 24) (r : Option TimerRec) : (Device.setTimer t r d).handed = d.handed := rfl
@[simp] theorem Device.setTimer_timers (t : Fin 24) (r : Option TimerRec) : (Device.setTimer t r d).timers = d.timers.set t r := rfl
@[simp] theorem Device.setTimer_watches (t : Fin 24) (r : Option TimerRec) : (Device.setTimer t r d).watches = d.watches := rfl
@[simp] theorem Device.setTimer_linkWatch (t : Fin 24) (r : Option TimerRec) : (Device.setTimer t r d).linkWatch = d.linkWatch := rfl
@[simp] theorem Device.setTimer_lines (t : Fin 24) (r : Option TimerRec) : (Device.setTimer t r d).lines = d.lines := rfl
@[simp] theorem Device.setTimer_inputs (t : Fin 24) (r : Option TimerRec) : (Device.setTimer t r d).inputs = d.inputs := rfl
@[simp] theorem Device.setTimer_sampleOwed (t : Fin 24) (r : Option TimerRec) : (Device.setTimer t r d).sampleOwed = d.sampleOwed := rfl
@[simp] theorem Device.setTimer_notices (t : Fin 24) (r : Option TimerRec) : (Device.setTimer t r d).notices = d.notices := rfl
@[simp] theorem Device.setTimer_link (t : Fin 24) (r : Option TimerRec) : (Device.setTimer t r d).link = d.link := rfl
@[simp] theorem Device.setTimer_fault (t : Fin 24) (r : Option TimerRec) : (Device.setTimer t r d).fault = d.fault := rfl

@[simp] theorem Device.setWatch_mode (w : Fin 16) (r : Option WatchRec) : (Device.setWatch w r d).mode = d.mode := rfl
@[simp] theorem Device.setWatch_elapsed (w : Fin 16) (r : Option WatchRec) : (Device.setWatch w r d).elapsed = d.elapsed := rfl
@[simp] theorem Device.setWatch_wallOffset (w : Fin 16) (r : Option WatchRec) : (Device.setWatch w r d).wallOffset = d.wallOffset := rfl
@[simp] theorem Device.setWatch_deadlines (w : Fin 16) (r : Option WatchRec) : (Device.setWatch w r d).deadlines = d.deadlines := rfl
@[simp] theorem Device.setWatch_handed (w : Fin 16) (r : Option WatchRec) : (Device.setWatch w r d).handed = d.handed := rfl
@[simp] theorem Device.setWatch_timers (w : Fin 16) (r : Option WatchRec) : (Device.setWatch w r d).timers = d.timers := rfl
@[simp] theorem Device.setWatch_watches (w : Fin 16) (r : Option WatchRec) : (Device.setWatch w r d).watches = d.watches.set w r := rfl
@[simp] theorem Device.setWatch_linkWatch (w : Fin 16) (r : Option WatchRec) : (Device.setWatch w r d).linkWatch = d.linkWatch := rfl
@[simp] theorem Device.setWatch_lines (w : Fin 16) (r : Option WatchRec) : (Device.setWatch w r d).lines = d.lines := rfl
@[simp] theorem Device.setWatch_inputs (w : Fin 16) (r : Option WatchRec) : (Device.setWatch w r d).inputs = d.inputs := rfl
@[simp] theorem Device.setWatch_sampleOwed (w : Fin 16) (r : Option WatchRec) : (Device.setWatch w r d).sampleOwed = d.sampleOwed := rfl
@[simp] theorem Device.setWatch_notices (w : Fin 16) (r : Option WatchRec) : (Device.setWatch w r d).notices = d.notices := rfl
@[simp] theorem Device.setWatch_link (w : Fin 16) (r : Option WatchRec) : (Device.setWatch w r d).link = d.link := rfl
@[simp] theorem Device.setWatch_fault (w : Fin 16) (r : Option WatchRec) : (Device.setWatch w r d).fault = d.fault := rfl

@[simp] theorem Device.setLine_mode (n : Fin 8) (r : LineRec) : (Device.setLine n r d).mode = d.mode := rfl
@[simp] theorem Device.setLine_elapsed (n : Fin 8) (r : LineRec) : (Device.setLine n r d).elapsed = d.elapsed := rfl
@[simp] theorem Device.setLine_wallOffset (n : Fin 8) (r : LineRec) : (Device.setLine n r d).wallOffset = d.wallOffset := rfl
@[simp] theorem Device.setLine_deadlines (n : Fin 8) (r : LineRec) : (Device.setLine n r d).deadlines = d.deadlines := rfl
@[simp] theorem Device.setLine_handed (n : Fin 8) (r : LineRec) : (Device.setLine n r d).handed = d.handed := rfl
@[simp] theorem Device.setLine_timers (n : Fin 8) (r : LineRec) : (Device.setLine n r d).timers = d.timers := rfl
@[simp] theorem Device.setLine_watches (n : Fin 8) (r : LineRec) : (Device.setLine n r d).watches = d.watches := rfl
@[simp] theorem Device.setLine_linkWatch (n : Fin 8) (r : LineRec) : (Device.setLine n r d).linkWatch = d.linkWatch := rfl
@[simp] theorem Device.setLine_lines (n : Fin 8) (r : LineRec) : (Device.setLine n r d).lines = d.lines.set n r := rfl
@[simp] theorem Device.setLine_inputs (n : Fin 8) (r : LineRec) : (Device.setLine n r d).inputs = d.inputs := rfl
@[simp] theorem Device.setLine_sampleOwed (n : Fin 8) (r : LineRec) : (Device.setLine n r d).sampleOwed = d.sampleOwed := rfl
@[simp] theorem Device.setLine_notices (n : Fin 8) (r : LineRec) : (Device.setLine n r d).notices = d.notices := rfl
@[simp] theorem Device.setLine_link (n : Fin 8) (r : LineRec) : (Device.setLine n r d).link = d.link := rfl
@[simp] theorem Device.setLine_fault (n : Fin 8) (r : LineRec) : (Device.setLine n r d).fault = d.fault := rfl

@[simp] theorem Device.setInput_mode (n : Fin 8) (r : InputRec) : (Device.setInput n r d).mode = d.mode := rfl
@[simp] theorem Device.setInput_elapsed (n : Fin 8) (r : InputRec) : (Device.setInput n r d).elapsed = d.elapsed := rfl
@[simp] theorem Device.setInput_wallOffset (n : Fin 8) (r : InputRec) : (Device.setInput n r d).wallOffset = d.wallOffset := rfl
@[simp] theorem Device.setInput_deadlines (n : Fin 8) (r : InputRec) : (Device.setInput n r d).deadlines = d.deadlines := rfl
@[simp] theorem Device.setInput_handed (n : Fin 8) (r : InputRec) : (Device.setInput n r d).handed = d.handed := rfl
@[simp] theorem Device.setInput_timers (n : Fin 8) (r : InputRec) : (Device.setInput n r d).timers = d.timers := rfl
@[simp] theorem Device.setInput_watches (n : Fin 8) (r : InputRec) : (Device.setInput n r d).watches = d.watches := rfl
@[simp] theorem Device.setInput_linkWatch (n : Fin 8) (r : InputRec) : (Device.setInput n r d).linkWatch = d.linkWatch := rfl
@[simp] theorem Device.setInput_lines (n : Fin 8) (r : InputRec) : (Device.setInput n r d).lines = d.lines := rfl
@[simp] theorem Device.setInput_inputs (n : Fin 8) (r : InputRec) : (Device.setInput n r d).inputs = d.inputs.set n r := rfl
@[simp] theorem Device.setInput_sampleOwed (n : Fin 8) (r : InputRec) : (Device.setInput n r d).sampleOwed = d.sampleOwed := rfl
@[simp] theorem Device.setInput_notices (n : Fin 8) (r : InputRec) : (Device.setInput n r d).notices = d.notices := rfl
@[simp] theorem Device.setInput_link (n : Fin 8) (r : InputRec) : (Device.setInput n r d).link = d.link := rfl
@[simp] theorem Device.setInput_fault (n : Fin 8) (r : InputRec) : (Device.setInput n r d).fault = d.fault := rfl

@[simp] theorem Device.setRole_mode (n : Fin 8) (role : Role) : (Device.setRole n role d).mode = d.mode := rfl
@[simp] theorem Device.setRole_elapsed (n : Fin 8) (role : Role) : (Device.setRole n role d).elapsed = d.elapsed := rfl
@[simp] theorem Device.setRole_wallOffset (n : Fin 8) (role : Role) : (Device.setRole n role d).wallOffset = d.wallOffset := rfl
@[simp] theorem Device.setRole_deadlines (n : Fin 8) (role : Role) : (Device.setRole n role d).deadlines = d.deadlines := rfl
@[simp] theorem Device.setRole_handed (n : Fin 8) (role : Role) : (Device.setRole n role d).handed = d.handed := rfl
@[simp] theorem Device.setRole_timers (n : Fin 8) (role : Role) : (Device.setRole n role d).timers = d.timers := rfl
@[simp] theorem Device.setRole_watches (n : Fin 8) (role : Role) : (Device.setRole n role d).watches = d.watches := rfl
@[simp] theorem Device.setRole_linkWatch (n : Fin 8) (role : Role) : (Device.setRole n role d).linkWatch = d.linkWatch := rfl
@[simp] theorem Device.setRole_lines (n : Fin 8) (role : Role) : (Device.setRole n role d).lines = d.lines := rfl
@[simp] theorem Device.setRole_inputs (n : Fin 8) (role : Role) : (Device.setRole n role d).inputs = d.inputs.set n { d.inputs[n] with role := role } := rfl
@[simp] theorem Device.setRole_sampleOwed (n : Fin 8) (role : Role) : (Device.setRole n role d).sampleOwed = d.sampleOwed := rfl
@[simp] theorem Device.setRole_notices (n : Fin 8) (role : Role) : (Device.setRole n role d).notices = d.notices := rfl
@[simp] theorem Device.setRole_link (n : Fin 8) (role : Role) : (Device.setRole n role d).link = d.link := rfl
@[simp] theorem Device.setRole_fault (n : Fin 8) (role : Role) : (Device.setRole n role d).fault = d.fault := rfl

@[simp] theorem Device.removeEntry_mode (o : Owner) : (Device.removeEntry o d).mode = d.mode := rfl
@[simp] theorem Device.removeEntry_elapsed (o : Owner) : (Device.removeEntry o d).elapsed = d.elapsed := rfl
@[simp] theorem Device.removeEntry_wallOffset (o : Owner) : (Device.removeEntry o d).wallOffset = d.wallOffset := rfl
@[simp] theorem Device.removeEntry_deadlines (o : Owner) : (Device.removeEntry o d).deadlines = removeOwner o d.deadlines := rfl
@[simp] theorem Device.removeEntry_handed (o : Owner) : (Device.removeEntry o d).handed = d.handed := rfl
@[simp] theorem Device.removeEntry_timers (o : Owner) : (Device.removeEntry o d).timers = d.timers := rfl
@[simp] theorem Device.removeEntry_watches (o : Owner) : (Device.removeEntry o d).watches = d.watches := rfl
@[simp] theorem Device.removeEntry_linkWatch (o : Owner) : (Device.removeEntry o d).linkWatch = d.linkWatch := rfl
@[simp] theorem Device.removeEntry_lines (o : Owner) : (Device.removeEntry o d).lines = d.lines := rfl
@[simp] theorem Device.removeEntry_inputs (o : Owner) : (Device.removeEntry o d).inputs = d.inputs := rfl
@[simp] theorem Device.removeEntry_sampleOwed (o : Owner) : (Device.removeEntry o d).sampleOwed = d.sampleOwed := rfl
@[simp] theorem Device.removeEntry_notices (o : Owner) : (Device.removeEntry o d).notices = d.notices := rfl
@[simp] theorem Device.removeEntry_link (o : Owner) : (Device.removeEntry o d).link = d.link := rfl
@[simp] theorem Device.removeEntry_fault (o : Owner) : (Device.removeEntry o d).fault = d.fault := rfl

@[simp] theorem Device.insertEntry_mode (o : Owner) (due : Int) (wall : Option Nat) : (Device.insertEntry o due wall d).mode = d.mode := rfl
@[simp] theorem Device.insertEntry_elapsed (o : Owner) (due : Int) (wall : Option Nat) : (Device.insertEntry o due wall d).elapsed = d.elapsed := rfl
@[simp] theorem Device.insertEntry_wallOffset (o : Owner) (due : Int) (wall : Option Nat) : (Device.insertEntry o due wall d).wallOffset = d.wallOffset := rfl
@[simp] theorem Device.insertEntry_handed (o : Owner) (due : Int) (wall : Option Nat) : (Device.insertEntry o due wall d).handed = d.handed := rfl
@[simp] theorem Device.insertEntry_timers (o : Owner) (due : Int) (wall : Option Nat) : (Device.insertEntry o due wall d).timers = d.timers := rfl
@[simp] theorem Device.insertEntry_watches (o : Owner) (due : Int) (wall : Option Nat) : (Device.insertEntry o due wall d).watches = d.watches := rfl
@[simp] theorem Device.insertEntry_linkWatch (o : Owner) (due : Int) (wall : Option Nat) : (Device.insertEntry o due wall d).linkWatch = d.linkWatch := rfl
@[simp] theorem Device.insertEntry_lines (o : Owner) (due : Int) (wall : Option Nat) : (Device.insertEntry o due wall d).lines = d.lines := rfl
@[simp] theorem Device.insertEntry_inputs (o : Owner) (due : Int) (wall : Option Nat) : (Device.insertEntry o due wall d).inputs = d.inputs := rfl
@[simp] theorem Device.insertEntry_sampleOwed (o : Owner) (due : Int) (wall : Option Nat) : (Device.insertEntry o due wall d).sampleOwed = d.sampleOwed := rfl
@[simp] theorem Device.insertEntry_notices (o : Owner) (due : Int) (wall : Option Nat) : (Device.insertEntry o due wall d).notices = d.notices := rfl
@[simp] theorem Device.insertEntry_link (o : Owner) (due : Int) (wall : Option Nat) : (Device.insertEntry o due wall d).link = d.link := rfl
@[simp] theorem Device.insertEntry_fault (o : Owner) (due : Int) (wall : Option Nat) : (Device.insertEntry o due wall d).fault = d.fault := rfl

@[simp] theorem Device.takeOwner_mode (o : Owner) : (Device.takeOwner o d).mode = d.mode := rfl
@[simp] theorem Device.takeOwner_elapsed (o : Owner) : (Device.takeOwner o d).elapsed = d.elapsed := rfl
@[simp] theorem Device.takeOwner_wallOffset (o : Owner) : (Device.takeOwner o d).wallOffset = d.wallOffset := rfl
@[simp] theorem Device.takeOwner_timers (o : Owner) : (Device.takeOwner o d).timers = d.timers := rfl
@[simp] theorem Device.takeOwner_watches (o : Owner) : (Device.takeOwner o d).watches = d.watches := rfl
@[simp] theorem Device.takeOwner_linkWatch (o : Owner) : (Device.takeOwner o d).linkWatch = d.linkWatch := rfl
@[simp] theorem Device.takeOwner_lines (o : Owner) : (Device.takeOwner o d).lines = d.lines := rfl
@[simp] theorem Device.takeOwner_inputs (o : Owner) : (Device.takeOwner o d).inputs = d.inputs := rfl
@[simp] theorem Device.takeOwner_sampleOwed (o : Owner) : (Device.takeOwner o d).sampleOwed = d.sampleOwed := rfl
@[simp] theorem Device.takeOwner_notices (o : Owner) : (Device.takeOwner o d).notices = d.notices := rfl
@[simp] theorem Device.takeOwner_link (o : Owner) : (Device.takeOwner o d).link = d.link := rfl
@[simp] theorem Device.takeOwner_fault (o : Owner) : (Device.takeOwner o d).fault = d.fault := rfl

@[simp] theorem Device.setShadow_mode (n : Fin 8) (sh : Shadow) : (Device.setShadow n sh d).mode = d.mode := rfl
@[simp] theorem Device.setShadow_elapsed (n : Fin 8) (sh : Shadow) : (Device.setShadow n sh d).elapsed = d.elapsed := rfl
@[simp] theorem Device.setShadow_wallOffset (n : Fin 8) (sh : Shadow) : (Device.setShadow n sh d).wallOffset = d.wallOffset := rfl
@[simp] theorem Device.setShadow_deadlines (n : Fin 8) (sh : Shadow) : (Device.setShadow n sh d).deadlines = d.deadlines := rfl
@[simp] theorem Device.setShadow_handed (n : Fin 8) (sh : Shadow) : (Device.setShadow n sh d).handed = d.handed := rfl
@[simp] theorem Device.setShadow_timers (n : Fin 8) (sh : Shadow) : (Device.setShadow n sh d).timers = d.timers := rfl
@[simp] theorem Device.setShadow_watches (n : Fin 8) (sh : Shadow) : (Device.setShadow n sh d).watches = d.watches := rfl
@[simp] theorem Device.setShadow_linkWatch (n : Fin 8) (sh : Shadow) : (Device.setShadow n sh d).linkWatch = d.linkWatch := rfl
@[simp] theorem Device.setShadow_inputs (n : Fin 8) (sh : Shadow) : (Device.setShadow n sh d).inputs = d.inputs := rfl
@[simp] theorem Device.setShadow_sampleOwed (n : Fin 8) (sh : Shadow) : (Device.setShadow n sh d).sampleOwed = d.sampleOwed := rfl
@[simp] theorem Device.setShadow_notices (n : Fin 8) (sh : Shadow) : (Device.setShadow n sh d).notices = d.notices := rfl
@[simp] theorem Device.setShadow_link (n : Fin 8) (sh : Shadow) : (Device.setShadow n sh d).link = d.link := rfl
@[simp] theorem Device.setShadow_fault (n : Fin 8) (sh : Shadow) : (Device.setShadow n sh d).fault = d.fault := rfl

@[simp] theorem Device.startPulse_mode (n : Fin 8) (width : Nat) : (Device.startPulse n width d).mode = d.mode := rfl
@[simp] theorem Device.startPulse_elapsed (n : Fin 8) (width : Nat) : (Device.startPulse n width d).elapsed = d.elapsed := rfl
@[simp] theorem Device.startPulse_wallOffset (n : Fin 8) (width : Nat) : (Device.startPulse n width d).wallOffset = d.wallOffset := rfl
@[simp] theorem Device.startPulse_handed (n : Fin 8) (width : Nat) : (Device.startPulse n width d).handed = d.handed := rfl
@[simp] theorem Device.startPulse_timers (n : Fin 8) (width : Nat) : (Device.startPulse n width d).timers = d.timers := rfl
@[simp] theorem Device.startPulse_watches (n : Fin 8) (width : Nat) : (Device.startPulse n width d).watches = d.watches := rfl
@[simp] theorem Device.startPulse_linkWatch (n : Fin 8) (width : Nat) : (Device.startPulse n width d).linkWatch = d.linkWatch := rfl
@[simp] theorem Device.startPulse_inputs (n : Fin 8) (width : Nat) : (Device.startPulse n width d).inputs = d.inputs := rfl
@[simp] theorem Device.startPulse_sampleOwed (n : Fin 8) (width : Nat) : (Device.startPulse n width d).sampleOwed = d.sampleOwed := rfl
@[simp] theorem Device.startPulse_notices (n : Fin 8) (width : Nat) : (Device.startPulse n width d).notices = d.notices := rfl
@[simp] theorem Device.startPulse_link (n : Fin 8) (width : Nat) : (Device.startPulse n width d).link = d.link := rfl
@[simp] theorem Device.startPulse_fault (n : Fin 8) (width : Nat) : (Device.startPulse n width d).fault = d.fault := rfl

@[simp] theorem Device.restLine_mode (n : Fin 8) : (Device.restLine n d).mode = d.mode := rfl
@[simp] theorem Device.restLine_elapsed (n : Fin 8) : (Device.restLine n d).elapsed = d.elapsed := rfl
@[simp] theorem Device.restLine_wallOffset (n : Fin 8) : (Device.restLine n d).wallOffset = d.wallOffset := rfl
@[simp] theorem Device.restLine_handed (n : Fin 8) : (Device.restLine n d).handed = d.handed := rfl
@[simp] theorem Device.restLine_timers (n : Fin 8) : (Device.restLine n d).timers = d.timers := rfl
@[simp] theorem Device.restLine_watches (n : Fin 8) : (Device.restLine n d).watches = d.watches := rfl
@[simp] theorem Device.restLine_linkWatch (n : Fin 8) : (Device.restLine n d).linkWatch = d.linkWatch := rfl
@[simp] theorem Device.restLine_inputs (n : Fin 8) : (Device.restLine n d).inputs = d.inputs := rfl
@[simp] theorem Device.restLine_sampleOwed (n : Fin 8) : (Device.restLine n d).sampleOwed = d.sampleOwed := rfl
@[simp] theorem Device.restLine_notices (n : Fin 8) : (Device.restLine n d).notices = d.notices := rfl
@[simp] theorem Device.restLine_link (n : Fin 8) : (Device.restLine n d).link = d.link := rfl
@[simp] theorem Device.restLine_fault (n : Fin 8) : (Device.restLine n d).fault = d.fault := rfl

@[simp] theorem Device.releaseBinding_mode (n : Fin 8) : (Device.releaseBinding n d).mode = d.mode := rfl
@[simp] theorem Device.releaseBinding_elapsed (n : Fin 8) : (Device.releaseBinding n d).elapsed = d.elapsed := rfl
@[simp] theorem Device.releaseBinding_wallOffset (n : Fin 8) : (Device.releaseBinding n d).wallOffset = d.wallOffset := rfl
@[simp] theorem Device.releaseBinding_handed (n : Fin 8) : (Device.releaseBinding n d).handed = d.handed := rfl
@[simp] theorem Device.releaseBinding_timers (n : Fin 8) : (Device.releaseBinding n d).timers = d.timers := rfl
@[simp] theorem Device.releaseBinding_watches (n : Fin 8) : (Device.releaseBinding n d).watches = d.watches := rfl
@[simp] theorem Device.releaseBinding_linkWatch (n : Fin 8) : (Device.releaseBinding n d).linkWatch = d.linkWatch := rfl
@[simp] theorem Device.releaseBinding_inputs (n : Fin 8) : (Device.releaseBinding n d).inputs = d.inputs := rfl
@[simp] theorem Device.releaseBinding_sampleOwed (n : Fin 8) : (Device.releaseBinding n d).sampleOwed = d.sampleOwed := rfl
@[simp] theorem Device.releaseBinding_notices (n : Fin 8) : (Device.releaseBinding n d).notices = d.notices := rfl
@[simp] theorem Device.releaseBinding_link (n : Fin 8) : (Device.releaseBinding n d).link = d.link := rfl
@[simp] theorem Device.releaseBinding_fault (n : Fin 8) : (Device.releaseBinding n d).fault = d.fault := rfl

@[simp] theorem Device.addHolds_mode (w : Fin 16) (set : BitVec 8) : (Device.addHolds w set d).mode = d.mode := rfl
@[simp] theorem Device.addHolds_elapsed (w : Fin 16) (set : BitVec 8) : (Device.addHolds w set d).elapsed = d.elapsed := rfl
@[simp] theorem Device.addHolds_wallOffset (w : Fin 16) (set : BitVec 8) : (Device.addHolds w set d).wallOffset = d.wallOffset := rfl
@[simp] theorem Device.addHolds_deadlines (w : Fin 16) (set : BitVec 8) : (Device.addHolds w set d).deadlines = d.deadlines := rfl
@[simp] theorem Device.addHolds_handed (w : Fin 16) (set : BitVec 8) : (Device.addHolds w set d).handed = d.handed := rfl
@[simp] theorem Device.addHolds_timers (w : Fin 16) (set : BitVec 8) : (Device.addHolds w set d).timers = d.timers := rfl
@[simp] theorem Device.addHolds_watches (w : Fin 16) (set : BitVec 8) : (Device.addHolds w set d).watches = d.watches := rfl
@[simp] theorem Device.addHolds_linkWatch (w : Fin 16) (set : BitVec 8) : (Device.addHolds w set d).linkWatch = d.linkWatch := rfl
@[simp] theorem Device.addHolds_inputs (w : Fin 16) (set : BitVec 8) : (Device.addHolds w set d).inputs = d.inputs := rfl
@[simp] theorem Device.addHolds_sampleOwed (w : Fin 16) (set : BitVec 8) : (Device.addHolds w set d).sampleOwed = d.sampleOwed := rfl
@[simp] theorem Device.addHolds_notices (w : Fin 16) (set : BitVec 8) : (Device.addHolds w set d).notices = d.notices := rfl
@[simp] theorem Device.addHolds_link (w : Fin 16) (set : BitVec 8) : (Device.addHolds w set d).link = d.link := rfl
@[simp] theorem Device.addHolds_fault (w : Fin 16) (set : BitVec 8) : (Device.addHolds w set d).fault = d.fault := rfl

@[simp] theorem Device.dropHolds_mode (w : Fin 16) (set : BitVec 8) : (Device.dropHolds w set d).mode = d.mode := rfl
@[simp] theorem Device.dropHolds_elapsed (w : Fin 16) (set : BitVec 8) : (Device.dropHolds w set d).elapsed = d.elapsed := rfl
@[simp] theorem Device.dropHolds_wallOffset (w : Fin 16) (set : BitVec 8) : (Device.dropHolds w set d).wallOffset = d.wallOffset := rfl
@[simp] theorem Device.dropHolds_deadlines (w : Fin 16) (set : BitVec 8) : (Device.dropHolds w set d).deadlines = d.deadlines := rfl
@[simp] theorem Device.dropHolds_handed (w : Fin 16) (set : BitVec 8) : (Device.dropHolds w set d).handed = d.handed := rfl
@[simp] theorem Device.dropHolds_timers (w : Fin 16) (set : BitVec 8) : (Device.dropHolds w set d).timers = d.timers := rfl
@[simp] theorem Device.dropHolds_watches (w : Fin 16) (set : BitVec 8) : (Device.dropHolds w set d).watches = d.watches := rfl
@[simp] theorem Device.dropHolds_linkWatch (w : Fin 16) (set : BitVec 8) : (Device.dropHolds w set d).linkWatch = d.linkWatch := rfl
@[simp] theorem Device.dropHolds_inputs (w : Fin 16) (set : BitVec 8) : (Device.dropHolds w set d).inputs = d.inputs := rfl
@[simp] theorem Device.dropHolds_sampleOwed (w : Fin 16) (set : BitVec 8) : (Device.dropHolds w set d).sampleOwed = d.sampleOwed := rfl
@[simp] theorem Device.dropHolds_notices (w : Fin 16) (set : BitVec 8) : (Device.dropHolds w set d).notices = d.notices := rfl
@[simp] theorem Device.dropHolds_link (w : Fin 16) (set : BitVec 8) : (Device.dropHolds w set d).link = d.link := rfl
@[simp] theorem Device.dropHolds_fault (w : Fin 16) (set : BitVec 8) : (Device.dropHolds w set d).fault = d.fault := rfl

@[simp] theorem Device.setHostHold_mode (held : Bool) (set : BitVec 8) : (Device.setHostHold held set d).mode = d.mode := rfl
@[simp] theorem Device.setHostHold_elapsed (held : Bool) (set : BitVec 8) : (Device.setHostHold held set d).elapsed = d.elapsed := rfl
@[simp] theorem Device.setHostHold_wallOffset (held : Bool) (set : BitVec 8) : (Device.setHostHold held set d).wallOffset = d.wallOffset := rfl
@[simp] theorem Device.setHostHold_deadlines (held : Bool) (set : BitVec 8) : (Device.setHostHold held set d).deadlines = d.deadlines := rfl
@[simp] theorem Device.setHostHold_handed (held : Bool) (set : BitVec 8) : (Device.setHostHold held set d).handed = d.handed := rfl
@[simp] theorem Device.setHostHold_timers (held : Bool) (set : BitVec 8) : (Device.setHostHold held set d).timers = d.timers := rfl
@[simp] theorem Device.setHostHold_watches (held : Bool) (set : BitVec 8) : (Device.setHostHold held set d).watches = d.watches := rfl
@[simp] theorem Device.setHostHold_linkWatch (held : Bool) (set : BitVec 8) : (Device.setHostHold held set d).linkWatch = d.linkWatch := rfl
@[simp] theorem Device.setHostHold_inputs (held : Bool) (set : BitVec 8) : (Device.setHostHold held set d).inputs = d.inputs := rfl
@[simp] theorem Device.setHostHold_sampleOwed (held : Bool) (set : BitVec 8) : (Device.setHostHold held set d).sampleOwed = d.sampleOwed := rfl
@[simp] theorem Device.setHostHold_notices (held : Bool) (set : BitVec 8) : (Device.setHostHold held set d).notices = d.notices := rfl
@[simp] theorem Device.setHostHold_link (held : Bool) (set : BitVec 8) : (Device.setHostHold held set d).link = d.link := rfl
@[simp] theorem Device.setHostHold_fault (held : Bool) (set : BitVec 8) : (Device.setHostHold held set d).fault = d.fault := rfl

@[simp] theorem Device.startRsto_mode : (Device.startRsto d).mode = d.mode := rfl
@[simp] theorem Device.startRsto_elapsed : (Device.startRsto d).elapsed = d.elapsed := rfl
@[simp] theorem Device.startRsto_wallOffset : (Device.startRsto d).wallOffset = d.wallOffset := rfl
@[simp] theorem Device.startRsto_handed : (Device.startRsto d).handed = d.handed := rfl
@[simp] theorem Device.startRsto_timers : (Device.startRsto d).timers = d.timers := rfl
@[simp] theorem Device.startRsto_watches : (Device.startRsto d).watches = d.watches := rfl
@[simp] theorem Device.startRsto_linkWatch : (Device.startRsto d).linkWatch = d.linkWatch := rfl
@[simp] theorem Device.startRsto_lines : (Device.startRsto d).lines = d.lines := rfl
@[simp] theorem Device.startRsto_inputs : (Device.startRsto d).inputs = d.inputs := rfl
@[simp] theorem Device.startRsto_sampleOwed : (Device.startRsto d).sampleOwed = d.sampleOwed := rfl
@[simp] theorem Device.startRsto_notices : (Device.startRsto d).notices = d.notices := rfl
@[simp] theorem Device.startRsto_link : (Device.startRsto d).link = d.link := rfl
@[simp] theorem Device.startRsto_fault : (Device.startRsto d).fault = d.fault := rfl

@[simp] theorem Device.notify_mode (body : NoticeBody) : (Device.notify body d).mode = d.mode := rfl
@[simp] theorem Device.notify_elapsed (body : NoticeBody) : (Device.notify body d).elapsed = d.elapsed := rfl
@[simp] theorem Device.notify_wallOffset (body : NoticeBody) : (Device.notify body d).wallOffset = d.wallOffset := rfl
@[simp] theorem Device.notify_deadlines (body : NoticeBody) : (Device.notify body d).deadlines = d.deadlines := rfl
@[simp] theorem Device.notify_handed (body : NoticeBody) : (Device.notify body d).handed = d.handed := rfl
@[simp] theorem Device.notify_timers (body : NoticeBody) : (Device.notify body d).timers = d.timers := rfl
@[simp] theorem Device.notify_watches (body : NoticeBody) : (Device.notify body d).watches = d.watches := rfl
@[simp] theorem Device.notify_linkWatch (body : NoticeBody) : (Device.notify body d).linkWatch = d.linkWatch := rfl
@[simp] theorem Device.notify_lines (body : NoticeBody) : (Device.notify body d).lines = d.lines := rfl
@[simp] theorem Device.notify_inputs (body : NoticeBody) : (Device.notify body d).inputs = d.inputs := rfl
@[simp] theorem Device.notify_sampleOwed (body : NoticeBody) : (Device.notify body d).sampleOwed = d.sampleOwed := rfl
@[simp] theorem Device.notify_notices (body : NoticeBody) : (Device.notify body d).notices = d.notices.append body d.elapsed := rfl
@[simp] theorem Device.notify_link (body : NoticeBody) : (Device.notify body d).link = d.link := rfl
@[simp] theorem Device.notify_fault (body : NoticeBody) : (Device.notify body d).fault = d.fault := rfl

@[simp] theorem Device.recordTrip_mode (w : Fin 16) (cause : Cause) : (Device.recordTrip w cause d).mode = d.mode := rfl
@[simp] theorem Device.recordTrip_elapsed (w : Fin 16) (cause : Cause) : (Device.recordTrip w cause d).elapsed = d.elapsed := rfl
@[simp] theorem Device.recordTrip_wallOffset (w : Fin 16) (cause : Cause) : (Device.recordTrip w cause d).wallOffset = d.wallOffset := rfl
@[simp] theorem Device.recordTrip_deadlines (w : Fin 16) (cause : Cause) : (Device.recordTrip w cause d).deadlines = d.deadlines := rfl
@[simp] theorem Device.recordTrip_handed (w : Fin 16) (cause : Cause) : (Device.recordTrip w cause d).handed = d.handed := rfl
@[simp] theorem Device.recordTrip_timers (w : Fin 16) (cause : Cause) : (Device.recordTrip w cause d).timers = d.timers := rfl
@[simp] theorem Device.recordTrip_watches (w : Fin 16) (cause : Cause) : (Device.recordTrip w cause d).watches = d.watches := rfl
@[simp] theorem Device.recordTrip_linkWatch (w : Fin 16) (cause : Cause) : (Device.recordTrip w cause d).linkWatch = d.linkWatch := rfl
@[simp] theorem Device.recordTrip_lines (w : Fin 16) (cause : Cause) : (Device.recordTrip w cause d).lines = d.lines := rfl
@[simp] theorem Device.recordTrip_inputs (w : Fin 16) (cause : Cause) : (Device.recordTrip w cause d).inputs = d.inputs := rfl
@[simp] theorem Device.recordTrip_sampleOwed (w : Fin 16) (cause : Cause) : (Device.recordTrip w cause d).sampleOwed = d.sampleOwed := rfl
@[simp] theorem Device.recordTrip_notices (w : Fin 16) (cause : Cause) : (Device.recordTrip w cause d).notices = d.notices := rfl
@[simp] theorem Device.recordTrip_link (w : Fin 16) (cause : Cause) : (Device.recordTrip w cause d).link = d.link := rfl

@[simp] theorem Device.insertRetrip_mode (r : WatchRec) : (Device.insertRetrip r d).mode = d.mode := rfl
@[simp] theorem Device.insertRetrip_elapsed (r : WatchRec) : (Device.insertRetrip r d).elapsed = d.elapsed := rfl
@[simp] theorem Device.insertRetrip_wallOffset (r : WatchRec) : (Device.insertRetrip r d).wallOffset = d.wallOffset := rfl
@[simp] theorem Device.insertRetrip_handed (r : WatchRec) : (Device.insertRetrip r d).handed = d.handed := rfl
@[simp] theorem Device.insertRetrip_timers (r : WatchRec) : (Device.insertRetrip r d).timers = d.timers := rfl
@[simp] theorem Device.insertRetrip_watches (r : WatchRec) : (Device.insertRetrip r d).watches = d.watches := rfl
@[simp] theorem Device.insertRetrip_linkWatch (r : WatchRec) : (Device.insertRetrip r d).linkWatch = d.linkWatch := rfl
@[simp] theorem Device.insertRetrip_lines (r : WatchRec) : (Device.insertRetrip r d).lines = d.lines := rfl
@[simp] theorem Device.insertRetrip_inputs (r : WatchRec) : (Device.insertRetrip r d).inputs = d.inputs := rfl
@[simp] theorem Device.insertRetrip_sampleOwed (r : WatchRec) : (Device.insertRetrip r d).sampleOwed = d.sampleOwed := rfl
@[simp] theorem Device.insertRetrip_notices (r : WatchRec) : (Device.insertRetrip r d).notices = d.notices := rfl
@[simp] theorem Device.insertRetrip_link (r : WatchRec) : (Device.insertRetrip r d).link = d.link := rfl
@[simp] theorem Device.insertRetrip_fault (r : WatchRec) : (Device.insertRetrip r d).fault = d.fault := rfl

@[simp] theorem Device.insertResend_mode : (Device.insertResend d).mode = d.mode := rfl
@[simp] theorem Device.insertResend_elapsed : (Device.insertResend d).elapsed = d.elapsed := rfl
@[simp] theorem Device.insertResend_wallOffset : (Device.insertResend d).wallOffset = d.wallOffset := rfl
@[simp] theorem Device.insertResend_handed : (Device.insertResend d).handed = d.handed := rfl
@[simp] theorem Device.insertResend_timers : (Device.insertResend d).timers = d.timers := rfl
@[simp] theorem Device.insertResend_watches : (Device.insertResend d).watches = d.watches := rfl
@[simp] theorem Device.insertResend_linkWatch : (Device.insertResend d).linkWatch = d.linkWatch := rfl
@[simp] theorem Device.insertResend_lines : (Device.insertResend d).lines = d.lines := rfl
@[simp] theorem Device.insertResend_inputs : (Device.insertResend d).inputs = d.inputs := rfl
@[simp] theorem Device.insertResend_sampleOwed : (Device.insertResend d).sampleOwed = d.sampleOwed := rfl
@[simp] theorem Device.insertResend_notices : (Device.insertResend d).notices = d.notices := rfl
@[simp] theorem Device.insertResend_link : (Device.insertResend d).link = d.link := rfl
@[simp] theorem Device.insertResend_fault : (Device.insertResend d).fault = d.fault := rfl

@[simp] theorem Device.transmit_mode (f : Frame) : (Device.transmit f d).mode = d.mode := rfl
@[simp] theorem Device.transmit_elapsed (f : Frame) : (Device.transmit f d).elapsed = d.elapsed := rfl
@[simp] theorem Device.transmit_wallOffset (f : Frame) : (Device.transmit f d).wallOffset = d.wallOffset := rfl
@[simp] theorem Device.transmit_deadlines (f : Frame) : (Device.transmit f d).deadlines = d.deadlines := rfl
@[simp] theorem Device.transmit_handed (f : Frame) : (Device.transmit f d).handed = d.handed := rfl
@[simp] theorem Device.transmit_timers (f : Frame) : (Device.transmit f d).timers = d.timers := rfl
@[simp] theorem Device.transmit_watches (f : Frame) : (Device.transmit f d).watches = d.watches := rfl
@[simp] theorem Device.transmit_linkWatch (f : Frame) : (Device.transmit f d).linkWatch = d.linkWatch := rfl
@[simp] theorem Device.transmit_lines (f : Frame) : (Device.transmit f d).lines = d.lines := rfl
@[simp] theorem Device.transmit_inputs (f : Frame) : (Device.transmit f d).inputs = d.inputs := rfl
@[simp] theorem Device.transmit_sampleOwed (f : Frame) : (Device.transmit f d).sampleOwed = d.sampleOwed := rfl
@[simp] theorem Device.transmit_notices (f : Frame) : (Device.transmit f d).notices = d.notices := rfl
@[simp] theorem Device.transmit_link (f : Frame) : (Device.transmit f d).link = { d.link with transmitting := some f } := rfl
@[simp] theorem Device.transmit_fault (f : Frame) : (Device.transmit f d).fault = d.fault := rfl

@[simp] theorem Device.setCounters_mode (c : LinkCounters) : (Device.setCounters c d).mode = d.mode := rfl
@[simp] theorem Device.setCounters_elapsed (c : LinkCounters) : (Device.setCounters c d).elapsed = d.elapsed := rfl
@[simp] theorem Device.setCounters_wallOffset (c : LinkCounters) : (Device.setCounters c d).wallOffset = d.wallOffset := rfl
@[simp] theorem Device.setCounters_deadlines (c : LinkCounters) : (Device.setCounters c d).deadlines = d.deadlines := rfl
@[simp] theorem Device.setCounters_handed (c : LinkCounters) : (Device.setCounters c d).handed = d.handed := rfl
@[simp] theorem Device.setCounters_timers (c : LinkCounters) : (Device.setCounters c d).timers = d.timers := rfl
@[simp] theorem Device.setCounters_watches (c : LinkCounters) : (Device.setCounters c d).watches = d.watches := rfl
@[simp] theorem Device.setCounters_linkWatch (c : LinkCounters) : (Device.setCounters c d).linkWatch = d.linkWatch := rfl
@[simp] theorem Device.setCounters_lines (c : LinkCounters) : (Device.setCounters c d).lines = d.lines := rfl
@[simp] theorem Device.setCounters_inputs (c : LinkCounters) : (Device.setCounters c d).inputs = d.inputs := rfl
@[simp] theorem Device.setCounters_sampleOwed (c : LinkCounters) : (Device.setCounters c d).sampleOwed = d.sampleOwed := rfl
@[simp] theorem Device.setCounters_notices (c : LinkCounters) : (Device.setCounters c d).notices = d.notices := rfl
@[simp] theorem Device.setCounters_link (c : LinkCounters) : (Device.setCounters c d).link = { d.link with counters := c } := rfl
@[simp] theorem Device.setCounters_fault (c : LinkCounters) : (Device.setCounters c d).fault = d.fault := rfl

@[simp] theorem Device.setAssembly_mode (a : Assembly) : (Device.setAssembly a d).mode = d.mode := rfl
@[simp] theorem Device.setAssembly_elapsed (a : Assembly) : (Device.setAssembly a d).elapsed = d.elapsed := rfl
@[simp] theorem Device.setAssembly_wallOffset (a : Assembly) : (Device.setAssembly a d).wallOffset = d.wallOffset := rfl
@[simp] theorem Device.setAssembly_deadlines (a : Assembly) : (Device.setAssembly a d).deadlines = d.deadlines := rfl
@[simp] theorem Device.setAssembly_handed (a : Assembly) : (Device.setAssembly a d).handed = d.handed := rfl
@[simp] theorem Device.setAssembly_timers (a : Assembly) : (Device.setAssembly a d).timers = d.timers := rfl
@[simp] theorem Device.setAssembly_watches (a : Assembly) : (Device.setAssembly a d).watches = d.watches := rfl
@[simp] theorem Device.setAssembly_linkWatch (a : Assembly) : (Device.setAssembly a d).linkWatch = d.linkWatch := rfl
@[simp] theorem Device.setAssembly_lines (a : Assembly) : (Device.setAssembly a d).lines = d.lines := rfl
@[simp] theorem Device.setAssembly_inputs (a : Assembly) : (Device.setAssembly a d).inputs = d.inputs := rfl
@[simp] theorem Device.setAssembly_sampleOwed (a : Assembly) : (Device.setAssembly a d).sampleOwed = d.sampleOwed := rfl
@[simp] theorem Device.setAssembly_notices (a : Assembly) : (Device.setAssembly a d).notices = d.notices := rfl
@[simp] theorem Device.setAssembly_link (a : Assembly) : (Device.setAssembly a d).link = { d.link with assembly := a } := rfl
@[simp] theorem Device.setAssembly_fault (a : Assembly) : (Device.setAssembly a d).fault = d.fault := rfl

@[simp] theorem Device.queueReply_mode (f : Frame) : (Device.queueReply f d).mode = d.mode := rfl
@[simp] theorem Device.queueReply_elapsed (f : Frame) : (Device.queueReply f d).elapsed = d.elapsed := rfl
@[simp] theorem Device.queueReply_wallOffset (f : Frame) : (Device.queueReply f d).wallOffset = d.wallOffset := rfl
@[simp] theorem Device.queueReply_deadlines (f : Frame) : (Device.queueReply f d).deadlines = d.deadlines := rfl
@[simp] theorem Device.queueReply_handed (f : Frame) : (Device.queueReply f d).handed = d.handed := rfl
@[simp] theorem Device.queueReply_timers (f : Frame) : (Device.queueReply f d).timers = d.timers := rfl
@[simp] theorem Device.queueReply_watches (f : Frame) : (Device.queueReply f d).watches = d.watches := rfl
@[simp] theorem Device.queueReply_linkWatch (f : Frame) : (Device.queueReply f d).linkWatch = d.linkWatch := rfl
@[simp] theorem Device.queueReply_lines (f : Frame) : (Device.queueReply f d).lines = d.lines := rfl
@[simp] theorem Device.queueReply_inputs (f : Frame) : (Device.queueReply f d).inputs = d.inputs := rfl
@[simp] theorem Device.queueReply_sampleOwed (f : Frame) : (Device.queueReply f d).sampleOwed = d.sampleOwed := rfl
@[simp] theorem Device.queueReply_notices (f : Frame) : (Device.queueReply f d).notices = d.notices := rfl
@[simp] theorem Device.queueReply_link (f : Frame) : (Device.queueReply f d).link = { d.link with replyQueue := d.link.replyQueue ++ [f] } := rfl
@[simp] theorem Device.queueReply_fault (f : Frame) : (Device.queueReply f d).fault = d.fault := rfl

@[simp] theorem Device.takeOwner_deadlines (o : Owner) :
    (Device.takeOwner o d).deadlines = removeOwner o d.deadlines := rfl

@[simp] theorem Device.takeOwner_handed (o : Owner) : (Device.takeOwner o d).handed = o :: d.handed := rfl

end Sys2Proof.Machine
end

