-- ==== Sys2Proof/Laws/Ops.lean ====
section
/-! SUPPORT. What each shared operation does, said once: the deadline list's insertion and removal, the searches over the
notice queue, the holders of the lines, the engine's choice. -/

namespace Sys2Proof.Machine

/-! ### Deadline list -/

theorem Entry.before_iff (e f : Entry) :
    e.before f = true ↔ e.due < f.due ∨ (e.due = f.due ∧ e.pos < f.pos) := by
  simp [Entry.before]

/-- Placing adds the entry and keeps the others. -/
theorem perm_placeEntry (e : Entry) (l : List Entry) : (placeEntry e l).Perm (e :: l) := by
  induction l with
  | nil => exact .refl _
  | cons f rest ih =>
    unfold placeEntry
    split
    · exact .refl _
    · exact (ih.cons f).trans (List.Perm.swap e f rest)

theorem mem_placeEntry {x e : Entry} {l : List Entry} : x ∈ placeEntry e l ↔ x = e ∨ x ∈ l := by
  rw [(perm_placeEntry e l).mem_iff, List.mem_cons]

/-- Placing keeps the order of R8, where no present entry shares the newcomer's insertion position. -/
theorem pairwise_placeEntry {e : Entry} {l : List Entry}
    (hl : l.Pairwise (fun e f => e.due < f.due ∨ (e.due = f.due ∧ e.pos < f.pos))) (hp : ∀ f ∈ l, f.pos ≠ e.pos) :
    (placeEntry e l).Pairwise (fun e f => e.due < f.due ∨ (e.due = f.due ∧ e.pos < f.pos)) := by
  induction l with
  | nil => simp [placeEntry]
  | cons f rest ih =>
    obtain ⟨hf, hrest⟩ := List.pairwise_cons.mp hl
    have hpf := hp f (by simp)
    unfold placeEntry
    split
    · rename_i hb
      rw [Entry.before_iff] at hb
      refine List.pairwise_cons.mpr ⟨fun x hx => ?_, hl⟩
      rcases List.mem_cons.mp hx with rfl | hx
      · exact hb
      · have := hf x hx
        omega
    · rename_i hb
      rw [Entry.before_iff] at hb
      refine List.pairwise_cons.mpr ⟨fun x hx => ?_, ih hrest (fun x hx => hp x (by simp [hx]))⟩
      rcases mem_placeEntry.mp hx with rfl | hx
      · omega
      · exact hf x hx

theorem mem_removeOwner {x : Entry} {o : Owner} {l : List Entry} :
    x ∈ removeOwner o l ↔ x ∈ l ∧ x.owner ≠ o := by
  simp [removeOwner]

/-- A fresh insertion position is later than every present one. -/
theorem pos_lt_freshPos {f : Entry} {l : List Entry} (h : f ∈ l) : f.pos < freshPos l := by
  induction l with
  | nil => simp at h
  | cons g rest ih =>
    have hcons : freshPos (g :: rest) = max (g.pos + 1) (freshPos rest) := rfl
    rcases List.mem_cons.mp h with rfl | h
    · omega
    · have := ih h
      omega

@[simp] theorem Device.newEntry_owner (d : Device) (l : List Entry) (o : Owner) (due : Int) (wall : Option Nat) :
    (d.newEntry l o due wall).owner = o := by
  unfold Device.newEntry
  dsimp only
  split <;> rfl

@[simp] theorem Device.newEntry_wall (d : Device) (l : List Entry) (o : Owner) (due : Int) (wall : Option Nat) :
    (d.newEntry l o due wall).wall = wall := by
  unfold Device.newEntry
  dsimp only
  split <;> rfl

@[simp] theorem Device.newEntry_pos (d : Device) (l : List Entry) (o : Owner) (due : Int) (wall : Option Nat) :
    (d.newEntry l o due wall).pos = freshPos l := by
  unfold Device.newEntry
  dsimp only
  split <;> rfl

/-- An entry due later than now is recorded as given, or at the end of elapsed time (R1, R9). -/
theorem Device.newEntry_later (d : Device) (l : List Entry) (o : Owner) {due : Int} (wall : Option Nat)
    (h : (d.elapsed : Int) < clipDue due) :
    d.newEntry l o due wall =
      { owner := o, due := clipDue due, wall := wall, pos := freshPos l, pastDue := false } := by
  have h1 : ¬ (clipDue due ≤ (d.elapsed : Int) ∧ o ∈ d.handed) := by omega
  have h2 : ¬ clipDue due ≤ (d.elapsed : Int) := by omega
  unfold Device.newEntry
  dsimp only
  rw [if_neg h1]
  simp [h2]

theorem find_removeOwner_self (o : Owner) (l : List Entry) :
    (removeOwner o l).find? (fun e => e.owner == o) = none := by
  rw [List.find?_eq_none]
  intro x hx
  simp [(mem_removeOwner.mp hx).2]

theorem find_removeOwner_of_ne {o u : Owner} (h : u ≠ o) (l : List Entry) :
    (removeOwner o l).find? (fun e => e.owner == u) = l.find? (fun e => e.owner == u) := by
  induction l with
  | nil => rfl
  | cons f rest ih =>
    by_cases hf : f.owner = o
    · have : removeOwner o (f :: rest) = removeOwner o rest := by simp [removeOwner, hf]
      rw [this, ih, List.find?_cons_of_neg]
      simp [hf, h.symm]
    · have : removeOwner o (f :: rest) = f :: removeOwner o rest := by simp [removeOwner, hf]
      rw [this, List.find?_cons, List.find?_cons, ih]

theorem find_placeEntry_of_ne {e : Entry} {u : Owner} (h : u ≠ e.owner) (l : List Entry) :
    (placeEntry e l).find? (fun f => f.owner == u) = l.find? (fun f => f.owner == u) := by
  induction l with
  | nil => simp [placeEntry, h.symm]
  | cons f rest ih =>
    unfold placeEntry
    split
    · rw [List.find?_cons_of_neg]
      simp [h.symm]
    · rw [List.find?_cons, List.find?_cons, ih]

theorem find_placeEntry_self {e : Entry} {l : List Entry} (h : ∀ f ∈ l, f.owner ≠ e.owner) :
    (placeEntry e l).find? (fun f => f.owner == e.owner) = some e := by
  induction l with
  | nil => simp [placeEntry]
  | cons f rest ih =>
    unfold placeEntry
    split
    · simp
    · rw [List.find?_cons_of_neg (by simpa using h f (by simp))]
      exact ih (fun x hx => h x (by simp [hx]))

/-- After a removal the owner has no entry (R10), -/
@[simp] theorem Device.entryOf_removeEntry_self (o : Owner) (d : Device) : (d.removeEntry o).entryOf o = none :=
  find_removeOwner_self o d.deadlines

/-- and every other owner keeps its own. -/
theorem Device.entryOf_removeEntry_of_ne {o u : Owner} (h : u ≠ o) (d : Device) :
    (d.removeEntry o).entryOf u = d.entryOf u :=
  find_removeOwner_of_ne h d.deadlines

/-- After an insertion the owner has the new entry (R9), -/
theorem Device.entryOf_insertEntry_self (o : Owner) (due : Int) (wall : Option Nat) (d : Device) :
    (d.insertEntry o due wall).entryOf o = some (d.newEntry (removeOwner o d.deadlines) o due wall) := by
  have h := find_placeEntry_self (e := d.newEntry (removeOwner o d.deadlines) o due wall)
    (l := removeOwner o d.deadlines) (fun f hf => by simpa using (mem_removeOwner.mp hf).2)
  simpa [Device.entryOf, Device.insertEntry] using h

/-- and every other owner keeps its own. -/
theorem Device.entryOf_insertEntry_of_ne {o u : Owner} (h : u ≠ o) (due : Int) (wall : Option Nat) (d : Device) :
    (d.insertEntry o due wall).entryOf u = d.entryOf u := by
  have h1 : u ≠ (d.newEntry (removeOwner o d.deadlines) o due wall).owner := by simpa using h
  exact (find_placeEntry_of_ne h1 _).trans (find_removeOwner_of_ne h d.deadlines)

/-- After a hand-over has begun the owner has no entry (R11), -/
@[simp] theorem Device.entryOf_takeOwner_self (o : Owner) (d : Device) : (d.takeOwner o).entryOf o = none :=
  find_removeOwner_self o d.deadlines

/-- and every other owner keeps its own. -/
theorem Device.entryOf_takeOwner_of_ne {o u : Owner} (h : u ≠ o) (d : Device) :
    (d.takeOwner o).entryOf u = d.entryOf u :=
  find_removeOwner_of_ne h d.deadlines

/-- A removal keeps the list in order (R8). -/
theorem Device.listOrdered_removeEntry {d : Device} (h : d.listOrdered) (o : Owner) : (d.removeEntry o).listOrdered := by
  obtain ⟨h1, h2, h3⟩ := h
  have hs : (removeOwner o d.deadlines).Sublist d.deadlines := List.filter_sublist
  exact ⟨h1.sublist hs, h2.sublist (hs.map _), h3.sublist (hs.map _)⟩

/-- An insertion keeps the list in order (R8, R9). -/
theorem Device.listOrdered_insertEntry {d : Device} (h : d.listOrdered) (o : Owner) (due : Int) (wall : Option Nat) :
    (d.insertEntry o due wall).listOrdered := by
  obtain ⟨h1, h2, h3⟩ := Device.listOrdered_removeEntry h o
  have hp := perm_placeEntry (d.newEntry (removeOwner o d.deadlines) o due wall) (removeOwner o d.deadlines)
  refine ⟨pairwise_placeEntry h1 (fun f hf => ?_), ((hp.map Entry.owner).nodup_iff).mpr ?_,
    ((hp.map Entry.pos).nodup_iff).mpr ?_⟩
  · have := pos_lt_freshPos hf
    simp only [Device.newEntry_pos]
    omega
  · refine List.nodup_cons.mpr ⟨?_, h2⟩
    simp only [Device.newEntry_owner, List.mem_map, not_exists, not_and]
    exact fun f hf => (mem_removeOwner.mp hf).2
  · refine List.nodup_cons.mpr ⟨?_, h3⟩
    simp only [Device.newEntry_pos, List.mem_map, not_exists, not_and]
    exact fun f hf he => absurd (pos_lt_freshPos hf) (by omega)

/-- The engine hands over the head of the list, where it is due and its owner has not been handed over (R11, R14). -/
theorem Device.headDue_eq_some {d : Device} {e : Entry} :
    d.headDue = some e ↔ (∃ rest, d.deadlines = e :: rest) ∧ e.due ≤ d.elapsed ∧ e.owner ∉ d.handed := by
  unfold Device.headDue
  split
  · rename_i h
    simp [h]
  · rename_i f rest h
    rw [h]
    split
    · rename_i hc
      constructor
      · rintro ⟨⟩
        exact ⟨⟨rest, rfl⟩, hc⟩
      · rintro ⟨⟨_, hr⟩, -⟩
        rw [(List.cons.inj hr).1]
    · rename_i hc
      constructor
      · rintro ⟨⟩
      · rintro ⟨⟨_, hr⟩, hd⟩
        rw [(List.cons.inj hr).1] at hc
        exact absurd hd hc

/-! ### Output unit -/

theorem Device.addHolds_line (w : Fin 16) (set : BitVec 8) (d : Device) (n : Fin 8) :
    (d.addHolds w set).lines[n] =
      if inSet set n then { d.lines[n] with watchHolders := d.lines[n].watchHolders ||| watchBit w }
      else d.lines[n] := by
  simp [Device.addHolds]

theorem Device.dropHolds_line (w : Fin 16) (set : BitVec 8) (d : Device) (n : Fin 8) :
    (d.dropHolds w set).lines[n] =
      if inSet set n then { d.lines[n] with watchHolders := d.lines[n].watchHolders &&& ~~~ watchBit w }
      else d.lines[n] := by
  simp [Device.dropHolds]

theorem Device.setHostHold_line (held : Bool) (set : BitVec 8) (d : Device) (n : Fin 8) :
    (d.setHostHold held set).lines[n] =
      if inSet set n then { d.lines[n] with hostHolder := held } else d.lines[n] := by
  simp [Device.setHostHold]

/-! ### Searches over the notice queue -/

/-- `removeLast` finds nothing where no element has the property. -/
theorem removeLast_eq_none {α : Type} {p : α → Bool} {l : List α} :
    removeLast p l = none ↔ ∀ x ∈ l, p x = false := by
  induction l with
  | nil => simp [removeLast]
  | cons a rest ih =>
    unfold removeLast
    cases hr : removeLast p rest with
    | some r =>
      have : ¬ ∀ x ∈ rest, p x = false := fun h => by
        rw [ih.mpr h] at hr
        cases hr
      simp only [reduceCtorEq, false_iff]
      exact fun h => this (fun x hx => h x (by simp [hx]))
    | none =>
      have hn := ih.mp hr
      by_cases hpa : p a = true
      · simp [hpa]
      · simp only [hpa]
        simpa [hpa] using hn

/-- `removeLast` removes the last element with the property. -/
theorem removeLast_eq_some {α : Type} {p : α → Bool} {l : List α} {y : α} {ys : List α} :
    removeLast p l = some (y, ys) ↔
      ∃ older newer, l = older ++ y :: newer ∧ ys = older ++ newer ∧ p y = true ∧ ∀ x ∈ newer, p x = false := by
  induction l generalizing y ys with
  | nil => simp [removeLast]
  | cons a rest ih =>
    unfold removeLast
    cases hr : removeLast p rest with
    | some r =>
      obtain ⟨z, zs⟩ := r
      obtain ⟨o, n, h1, h2, h3, h4⟩ := ih.mp hr
      constructor
      · rintro ⟨⟩
        exact ⟨a :: o, n, by simp [h1], by simp [h2], h3, h4⟩
      · rintro ⟨o', n', h1', h2', h3', h4'⟩
        cases o' with
        | nil =>
          obtain ⟨rfl, rfl⟩ := List.cons.inj h1'
          have := h4' z (by rw [h1]; simp)
          simp [h3] at this
        | cons b o' =>
          obtain ⟨rfl, hrest⟩ := List.cons.inj h1'
          have := (ih (y := y) (ys := o' ++ n')).mpr ⟨o', n', hrest, rfl, h3', h4'⟩
          rw [hr] at this
          simp only [Option.some.injEq, Prod.mk.injEq] at this
          simp [h2', this.1, this.2]
    | none =>
      have hn := removeLast_eq_none.mp hr
      by_cases hpa : p a = true
      · simp only [hpa, if_true, Option.some.injEq, Prod.mk.injEq]
        constructor
        · rintro ⟨rfl, rfl⟩
          exact ⟨[], rest, rfl, rfl, hpa, hn⟩
        · rintro ⟨o', n', h1', h2', h3', -⟩
          cases o' with
          | nil =>
            obtain ⟨rfl, rfl⟩ := List.cons.inj h1'
            exact ⟨rfl, by simp [h2']⟩
          | cons b o' =>
            obtain ⟨rfl, hrest⟩ := List.cons.inj h1'
            have := hn y (by rw [hrest]; simp)
            simp [h3'] at this
      · simp only [hpa]
        constructor
        · intro h
          cases h
        · rintro ⟨o', n', h1', -, h3', -⟩
          cases o' with
          | nil =>
            obtain ⟨rfl, -⟩ := List.cons.inj h1'
            exact absurd h3' hpa
          | cons b o' =>
            obtain ⟨rfl, hrest⟩ := List.cons.inj h1'
            have := hn y (by rw [hrest]; simp)
            simp [h3'] at this

/-- `updateFirst` changes the first element with the property. -/
theorem updateFirst_append {α : Type} {p : α → Bool} {f : α → α} {older newer : List α} {x : α}
    (h : ∀ y ∈ older, p y = false) (hx : p x = true) :
    updateFirst p f (older ++ x :: newer) = some (f x, older ++ f x :: newer) := by
  induction older with
  | nil => simp [updateFirst, hx]
  | cons a older ih =>
    have ha := h a (by simp)
    simp [updateFirst, ha, ih (fun y hy => h y (by simp [hy]))]

theorem updateFirst_eq_none {α : Type} {p : α → Bool} {f : α → α} {l : List α} :
    updateFirst p f l = none ↔ ∀ x ∈ l, p x = false := by
  induction l with
  | nil => simp [updateFirst]
  | cons a rest ih =>
    unfold updateFirst
    by_cases hpa : p a = true
    · simp [hpa]
    · cases hr : updateFirst p f rest with
      | some r =>
        have : ¬ ∀ x ∈ rest, p x = false := fun h => by
          rw [ih.mpr h] at hr
          cases hr
        simp only [hpa]
        simpa [hpa] using this
      | none => simpa [hpa] using ih.mp hr

/-- `dropThrough` removes the first notice with the property and every older one (R162). -/
theorem dropThrough_append {p : Notice → Bool} {older newer : List Notice} {n : Notice}
    (h : ∀ o ∈ older, p o = false) (hn : p n = true) :
    dropThrough p (older ++ n :: newer) = some (older.length + 1, newer) := by
  induction older with
  | nil => simp [dropThrough, hn]
  | cons a older ih =>
    have ha := h a (by simp)
    simp [dropThrough, ha, ih (fun y hy => h y (by simp [hy]))]

theorem dropThrough_eq_none {p : Notice → Bool} {l : List Notice} (h : ∀ o ∈ l, p o = false) :
    dropThrough p l = none := by
  induction l with
  | nil => rfl
  | cons a rest ih =>
    have ha := h a (by simp)
    simp [dropThrough, ha, ih (fun y hy => h y (by simp [hy]))]

end Sys2Proof.Machine
end

