-- ==== Sys2Proof/WellFormed.lean ====
section
/-! DEFINITION. Which commands the outside can give: a frame's payload is at most 56 bytes (R169), a kind named unknown
names no request (R178), and a byte is what its row says it is (R170, R171). `exec` answers for every command, well
formed or not. -/

namespace Sys2Proof

/-- A payload that a frame can carry (R169). -/
def payloadFits (payload : List Byte) : Bool := payload.length ≤ Config.maxPayload

/-- The well-formed commands. -/
def Instr.wellFormed : Instr → Bool
  | .identify _ p => payloadFits p
  | .linkQuery _ p => payloadFits p
  | .restart _ p => payloadFits p
  | .timeSet _ p => payloadFits p
  | .timeGet _ p => payloadFits p
  | .scheduleQuery _ p => payloadFits p
  | .timerDefine _ p => payloadFits p
  | .timerStart _ p => payloadFits p
  | .timerStop _ p => payloadFits p
  | .timerPause _ p => payloadFits p
  | .timerResume _ p => payloadFits p
  | .timerFree _ p => payloadFits p
  | .timerQuery _ p => payloadFits p
  | .watchDefine _ p => payloadFits p
  | .watchStart _ p => payloadFits p
  | .checkPrep _ p => payloadFits p
  | .checkConf _ p => payloadFits p
  | .watchRetune _ p => payloadFits p
  | .watchRetire _ p => payloadFits p
  | .watchRelease _ p => payloadFits p
  | .watchQuery _ p => payloadFits p
  | .lineConfig _ p => payloadFits p
  | .lineSet _ p => payloadFits p
  | .lineHold _ p => payloadFits p
  | .lineUnhold _ p => payloadFits p
  | .lineQuery _ p => payloadFits p
  | .inputConfig _ p => payloadFits p
  | .inputQuery _ p => payloadFits p
  | .noticeAck _ p => payloadFits p
  | .faultQuery _ p => payloadFits p
  | .faultClear _ p => payloadFits p
  | .unknownRequest kind _ p => payloadFits p && (Machine.Request.ofCode kind).isNone
  | .timerExpiry => true
  | .renewalDeadlineExpiry => true
  | .graceDeadlineExpiry => true
  | .settleDeadlineExpiry => true
  | .retripDeadlineExpiry => true
  | .pulseEnd => true
  | .rstoPulseEnd => true
  | .resendDeadlineExpiry => true
  | .inputSample _ order => order.Nodup
  | .frameReceived _ => true
  | .noiseByte b => b != 0xC3
  | .badLengthAbandon b => decide (Config.maxPayload < b.toNat)
  | .gapTimeout => true
  | .transmitComplete => true
  | .restartReset _ _ => true
  | .powerOn _ _ _ => true
  | .rstNAssert => true
  | .rstNRelease _ _ => true
  | .startByte => true
  | .frameContentByte _ => true

end Sys2Proof
end

