-- ==== Sys2Proof/Laws/PerInstr.lean ====
section
/-! SUPPORT. Per command: what a well-formed command's operands satisfy. -/

namespace Sys2Proof.Laws.CommandFits

open Sys2Proof Sys2Proof.Machine

/-- What the outside can give with each command: a request payload that a frame carries (R169), a kind that names no
request (R178), the bytes each row names (R170, R171), each line sampled once (R140). -/
def operandsFit : Instr → Prop
  | .identify _ p => p.length ≤ 56
  | .linkQuery _ p => p.length ≤ 56
  | .restart _ p => p.length ≤ 56
  | .timeSet _ p => p.length ≤ 56
  | .timeGet _ p => p.length ≤ 56
  | .scheduleQuery _ p => p.length ≤ 56
  | .timerDefine _ p => p.length ≤ 56
  | .timerStart _ p => p.length ≤ 56
  | .timerStop _ p => p.length ≤ 56
  | .timerPause _ p => p.length ≤ 56
  | .timerResume _ p => p.length ≤ 56
  | .timerFree _ p => p.length ≤ 56
  | .timerQuery _ p => p.length ≤ 56
  | .watchDefine _ p => p.length ≤ 56
  | .watchStart _ p => p.length ≤ 56
  | .checkPrep _ p => p.length ≤ 56
  | .checkConf _ p => p.length ≤ 56
  | .watchRetune _ p => p.length ≤ 56
  | .watchRetire _ p => p.length ≤ 56
  | .watchRelease _ p => p.length ≤ 56
  | .watchQuery _ p => p.length ≤ 56
  | .lineConfig _ p => p.length ≤ 56
  | .lineSet _ p => p.length ≤ 56
  | .lineHold _ p => p.length ≤ 56
  | .lineUnhold _ p => p.length ≤ 56
  | .lineQuery _ p => p.length ≤ 56
  | .inputConfig _ p => p.length ≤ 56
  | .inputQuery _ p => p.length ≤ 56
  | .noticeAck _ p => p.length ≤ 56
  | .faultQuery _ p => p.length ≤ 56
  | .faultClear _ p => p.length ≤ 56
  | .unknownRequest kind _ p => p.length ≤ 56 ∧ Request.ofCode kind = none
  | .timerExpiry => True
  | .renewalDeadlineExpiry => True
  | .graceDeadlineExpiry => True
  | .settleDeadlineExpiry => True
  | .retripDeadlineExpiry => True
  | .pulseEnd => True
  | .rstoPulseEnd => True
  | .resendDeadlineExpiry => True
  | .inputSample _ order => order.Nodup
  | .frameReceived _ => True
  | .noiseByte b => b ≠ 0xC3
  | .badLengthAbandon b => 56 < b.toNat
  | .gapTimeout => True
  | .transmitComplete => True
  | .restartReset _ _ => True
  | .powerOn _ _ _ => True
  | .rstNAssert => True
  | .rstNRelease _ _ => True
  | .startByte => True
  | .frameContentByte _ => True

/-- A well-formed command's operands fit. -/
def Statement (c : Instr) : Prop := c.wellFormed = true → operandsFit c

theorem payload_le {p : List Byte} (h : payloadFits p = true) : p.length ≤ 56 := by
  exact of_decide_eq_true h

theorem identify (tag : Byte) (payload : List Byte) : Statement (.identify tag payload) := payload_le

theorem linkQuery (tag : Byte) (payload : List Byte) : Statement (.linkQuery tag payload) := payload_le

theorem restart (tag : Byte) (payload : List Byte) : Statement (.restart tag payload) := payload_le

theorem timeSet (tag : Byte) (payload : List Byte) : Statement (.timeSet tag payload) := payload_le

theorem timeGet (tag : Byte) (payload : List Byte) : Statement (.timeGet tag payload) := payload_le

theorem scheduleQuery (tag : Byte) (payload : List Byte) : Statement (.scheduleQuery tag payload) := payload_le

theorem timerDefine (tag : Byte) (payload : List Byte) : Statement (.timerDefine tag payload) := payload_le

theorem timerStart (tag : Byte) (payload : List Byte) : Statement (.timerStart tag payload) := payload_le

theorem timerStop (tag : Byte) (payload : List Byte) : Statement (.timerStop tag payload) := payload_le

theorem timerPause (tag : Byte) (payload : List Byte) : Statement (.timerPause tag payload) := payload_le

theorem timerResume (tag : Byte) (payload : List Byte) : Statement (.timerResume tag payload) := payload_le

theorem timerFree (tag : Byte) (payload : List Byte) : Statement (.timerFree tag payload) := payload_le

theorem timerQuery (tag : Byte) (payload : List Byte) : Statement (.timerQuery tag payload) := payload_le

theorem watchDefine (tag : Byte) (payload : List Byte) : Statement (.watchDefine tag payload) := payload_le

theorem watchStart (tag : Byte) (payload : List Byte) : Statement (.watchStart tag payload) := payload_le

theorem checkPrep (tag : Byte) (payload : List Byte) : Statement (.checkPrep tag payload) := payload_le

theorem checkConf (tag : Byte) (payload : List Byte) : Statement (.checkConf tag payload) := payload_le

theorem watchRetune (tag : Byte) (payload : List Byte) : Statement (.watchRetune tag payload) := payload_le

theorem watchRetire (tag : Byte) (payload : List Byte) : Statement (.watchRetire tag payload) := payload_le

theorem watchRelease (tag : Byte) (payload : List Byte) : Statement (.watchRelease tag payload) := payload_le

theorem watchQuery (tag : Byte) (payload : List Byte) : Statement (.watchQuery tag payload) := payload_le

theorem lineConfig (tag : Byte) (payload : List Byte) : Statement (.lineConfig tag payload) := payload_le

theorem lineSet (tag : Byte) (payload : List Byte) : Statement (.lineSet tag payload) := payload_le

theorem lineHold (tag : Byte) (payload : List Byte) : Statement (.lineHold tag payload) := payload_le

theorem lineUnhold (tag : Byte) (payload : List Byte) : Statement (.lineUnhold tag payload) := payload_le

theorem lineQuery (tag : Byte) (payload : List Byte) : Statement (.lineQuery tag payload) := payload_le

theorem inputConfig (tag : Byte) (payload : List Byte) : Statement (.inputConfig tag payload) := payload_le

theorem inputQuery (tag : Byte) (payload : List Byte) : Statement (.inputQuery tag payload) := payload_le

theorem noticeAck (tag : Byte) (payload : List Byte) : Statement (.noticeAck tag payload) := payload_le

theorem faultQuery (tag : Byte) (payload : List Byte) : Statement (.faultQuery tag payload) := payload_le

theorem faultClear (tag : Byte) (payload : List Byte) : Statement (.faultClear tag payload) := payload_le

theorem unknownRequest (kind : Byte) (tag : Byte) (payload : List Byte) : Statement (.unknownRequest kind tag payload) :=
  by
  intro h
  obtain ⟨hp, hk⟩ := Bool.and_eq_true_iff.mp h
  exact ⟨payload_le hp, Option.isNone_iff_eq_none.mp hk⟩

theorem timerExpiry : Statement (.timerExpiry) := fun _ => trivial

theorem renewalDeadlineExpiry : Statement (.renewalDeadlineExpiry) := fun _ => trivial

theorem graceDeadlineExpiry : Statement (.graceDeadlineExpiry) := fun _ => trivial

theorem settleDeadlineExpiry : Statement (.settleDeadlineExpiry) := fun _ => trivial

theorem retripDeadlineExpiry : Statement (.retripDeadlineExpiry) := fun _ => trivial

theorem pulseEnd : Statement (.pulseEnd) := fun _ => trivial

theorem rstoPulseEnd : Statement (.rstoPulseEnd) := fun _ => trivial

theorem resendDeadlineExpiry : Statement (.resendDeadlineExpiry) := fun _ => trivial

theorem inputSample (levels : BitVec 8) (order : List (Fin 8)) : Statement (.inputSample levels order) :=
  fun h => of_decide_eq_true (p := order.Nodup) h

theorem frameReceived (byte : Byte) : Statement (.frameReceived byte) := fun _ => trivial

theorem noiseByte (byte : Byte) : Statement (.noiseByte byte) :=
  fun h => ne_of_beq_false (by simpa [Instr.wellFormed] using h)

theorem badLengthAbandon (byte : Byte) : Statement (.badLengthAbandon byte) :=
  fun h => Nat.lt_of_succ_le (of_decide_eq_true (p := 56 < byte.toNat) h)

theorem gapTimeout : Statement (.gapTimeout) := fun _ => trivial

theorem transmitComplete : Statement (.transmitComplete) := fun _ => trivial

theorem restartReset (pins : BitVec 8) (spd : Level) : Statement (.restartReset pins spd) := fun _ => trivial

theorem powerOn (rstN : Level) (pins : BitVec 8) (spd : Level) : Statement (.powerOn rstN pins spd) :=
  fun _ => trivial

theorem rstNAssert : Statement (.rstNAssert) := fun _ => trivial

theorem rstNRelease (pins : BitVec 8) (spd : Level) : Statement (.rstNRelease pins spd) := fun _ => trivial

theorem startByte : Statement (.startByte) := fun _ => trivial

theorem frameContentByte (byte : Byte) : Statement (.frameContentByte byte) := fun _ => trivial

end Sys2Proof.Laws.CommandFits
end

