-- ==== Sys2Proof/Laws/Requests.lean ====
section
/-! SUPPORT. What a request command does once for all requests: how it reaches the dispatcher, and what taking it leaves. -/

namespace Sys2Proof.Machine

/-- A request command delivers its frame to a running device. -/
theorem exec_command (r : Request) (tag : Byte) (p : List Byte) (s : State) :
    exec (r.command tag p) s = whileRunning (Device.deliverFrame (r.frame tag p)) s := by
  cases r <;> rfl

@[simp] theorem Request.ofCode_code (r : Request) : Request.ofCode r.code = some r := by
  cases r <;> rfl

theorem whileRunning_running {s : State} (h : s.mode = .running) (f : Device → Device) :
    whileRunning f s = .next (s.become (f s.toDevice)) := by
  simp [whileRunning, h, State.become]

theorem whileRunning_held {s : State} {cause : ResetCause} (h : s.mode = .held cause) (f : Device → Device) :
    whileRunning f s = .next s := by
  simp [whileRunning, h]

/-- Queueing a reply and letting the arbiter choose is `LinkPort.answered`. -/
theorem Device.queueReply_arbitrate (d : Device) (f : Frame) :
    (d.queueReply f).arbitrate = { d with link := d.link.answered f } := by
  unfold Device.arbitrate LinkPort.answered
  cases h : d.link.transmitting <;> cases hq : d.link.replyQueue <;>
    simp [Device.queueReply, Device.transmit, h, hq]

/-- The dispatcher takes the oldest waiting frame where the reply queue has room and no restart is pending (R176). -/
theorem dispatchFrames_cons {d : Device} {f : Frame} {rest : List Frame} (hq : d.link.receiveQueue = f :: rest)
    (hr : d.link.replyQueue.length < 4) (hp : d.link.restartPending = false) (fuel : Nat) :
    dispatchFrames (fuel + 1) d =
      dispatchFrames fuel
        ((({ d with link := { d.link with receiveQueue := rest } } : Device).takeFrame f).arbitrate) := by
  rw [dispatchFrames]
  split
  · simp_all
  · rename_i f' rest' h'
    obtain ⟨rfl, rfl⟩ := List.cons.inj (hq.symm.trans h')
    exact if_pos ⟨hr, hp⟩

/-- With no frame waiting the dispatcher takes none. -/
@[simp] theorem dispatch_nil {d : Device} (hq : d.link.receiveQueue = []) : d.dispatch = d := by
  simp [Device.dispatch, hq, dispatchFrames]

/-- A frame that reaches an idle dispatcher with room for its reply is taken at once. -/
theorem Device.deliverFrame_ready {d : Device} (hq : d.link.receiveQueue = []) (hr : d.link.replyQueue.length < 4)
    (hp : d.link.restartPending = false) (f : Frame) :
    d.deliverFrame f =
      { (answer f d).1 with link := (answer f d).1.link.answered (answer f d).2 } := by
  have hd : ({ d with link := { d.link with receiveQueue := [] } } : Device) = d := by
    rw [← hq]
  have hlen : d.link.receiveQueue.length < Config.receiveCapacity := by simp [hq, Config.receiveCapacity]
  rw [Device.deliverFrame, if_neg (by simp [hp]), if_pos hlen, Device.dispatch]
  have hl : ({ d with link := { d.link with receiveQueue := d.link.receiveQueue ++ [f] } } : Device).link.receiveQueue
      = [f] := by simp [hq]
  rw [hl, List.length_singleton, dispatchFrames_cons hl hr hp 0]
  show ((Device.takeFrame f { d with link := { d.link with receiveQueue := [] } }).arbitrate) = _
  rw [hd, Device.takeFrame, Device.queueReply_arbitrate]

/-- What a request command does that is taken now: its effect, and its reply. -/
theorem exec_command_ready (r : Request) (tag : Byte) (p : List Byte) {s : State} (h : s.ready) :
    exec (r.command tag p) s =
      .next (s.answers (takeRequest r p s.toDevice).1 r tag (takeRequest r p s.toDevice).2) := by
  obtain ⟨hm, hq, hr, hp⟩ := h
  rw [exec_command, whileRunning_running hm, Device.deliverFrame_ready hq hr hp]
  simp [answer, Request.frame, State.become, State.answers]

/-! ### The end of an event -/

/-- With the transmitter busy and no frame waiting, the link port has nothing to do. -/
theorem Device.pump_busy {d : Device} {f : Frame} (ht : d.link.transmitting = some f) (hq : d.link.receiveQueue = []) :
    d.pump = d := by
  have ha : d.arbitrate = d := by simp [Device.arbitrate, ht]
  rw [Device.pump, ha, dispatch_nil hq]

/-- With no entry past due there is no past-due hand-over (R13). -/
theorem Device.drainPastDue_none {d : Device} (h : ∀ e ∈ d.deadlines, e.pastDue = false) : d.drainPastDue = d := by
  have hf : d.deadlines.find? (fun e => e.pastDue) = none := by
    rw [List.find?_eq_none]
    intro e he
    simp [h e he]
  rw [Device.drainPastDue, drain, hf]

/-- The RESTART reply is in transmission exactly where the frame is of its kind, with no reply behind it and the restart
pending (R185). -/
theorem Device.restartReplySending_iff (d : Device) :
    d.restartReplySending = true ↔
      d.link.restartPending = true ∧ d.link.replyQueue = [] ∧ ∃ f, d.link.transmitting = some f ∧ f.kind = 0x83 := by
  unfold Device.restartReplySending
  have hc : Request.restart.replyCode = 0x83 := by decide
  cases ht : d.link.transmitting <;> simp [hc, and_assoc]

/-- All that the end of a frame does (R180, R181, R185): the RESTART reply's begins the reset, another frame's frees the
transmitter and the link port goes on. -/
theorem Device.frameSent_cases {d d' : Device} (h : d.frameSent = d') :
    (d.restartReplySending = true ∧ d' = d.holdReset .restart) ∨
    (d.restartReplySending = false ∧ d.link.transmitting.isSome ∧
      d' = ({ d with link := { d.link with transmitting := none } } : Device).pump) ∨
    (d.link.transmitting = none ∧ d' = d) := by
  subst h
  cases ht : d.link.transmitting with
  | none => exact .inr (.inr ⟨rfl, by rw [Device.frameSent, ht]⟩)
  | some f =>
    cases hr : d.restartReplySending
    · exact .inr (.inl ⟨rfl, rfl, by rw [Device.frameSent, ht]; simp [hr]⟩)
    · exact .inl ⟨rfl, by rw [Device.frameSent, ht]; simp [hr]⟩

/-- What a RESTART_RESET does (R185): it ends the reset in progress, or is the whole of it where the RESTART reply is in
transmission; else nothing. -/
theorem Device.restartReset_cases (pins : BitVec 8) (spd : Level) (d : Device) :
    ((d.mode = .held .restart ∨ (d.mode = .running ∧ d.restartReplySending = true)) ∧
      d.restartReset pins spd = d.endReset .restart pins spd) ∨
    (d.mode ≠ .held .restart ∧ (d.mode = .running → d.restartReplySending = false) ∧ d.restartReset pins spd = d) := by
  unfold Device.restartReset
  cases hr : d.restartReplySending <;> split <;> simp_all

/-! ### Replies to check-ins, and TXD -/

/-- A check-in leaves what the phase rule left: the look at the hand-over to come is the reply's alone (R75). -/
@[simp] theorem checkinAnswer_fst (w : Fin 16) (res : Device × Judgement) : (checkinAnswer w res).1 = res.1 := rfl

/-- All that the look at the hand-over to come does (R75): the watch's deadline where its entry is due and its owner not
handed over at this instant, else nothing. -/
theorem Device.afterHandOver_cases {w : Fin 16} {d d' : Device} (h : d.afterHandOver w = d') :
    (∃ e, d.entryOf (.watch w) = some e ∧ e.due ≤ d.elapsed ∧ .watch w ∉ d.handed ∧ d' = d.watchDeadline w) ∨
    ((∀ e, d.entryOf (.watch w) = some e → e.due ≤ d.elapsed → .watch w ∈ d.handed) ∧ d' = d) := by
  subst h
  unfold Device.afterHandOver
  cases he : d.entryOf (.watch w) with
  | none => exact .inr ⟨by simp, rfl⟩
  | some e =>
    by_cases hd : e.due ≤ d.elapsed ∧ Owner.watch w ∉ d.handed
    · exact .inl ⟨e, rfl, hd.1, hd.2, by simp [hd]⟩
    · exact .inr ⟨by simpa using hd, by simp [hd]⟩

@[simp] theorem length_character (b : Byte) : (character b).length = 10 := by simp [character]

/-- With the transmitter free, and in every reset, TXD is HIGH (R168, R187). -/
theorem Device.txd_free {d : Device} (h : d.link.transmitting = none) (bit : Nat) : d.txd bit = .high := by
  unfold Device.txd
  split <;> simp_all

/-! ### Reading the bytes of a request -/

@[simp] theorem byteAt_cons_zero (b : Byte) (p : List Byte) : byteAt (b :: p) 0 = b.toNat := rfl

@[simp] theorem byteAt_cons_succ (b : Byte) (p : List Byte) (i : Nat) : byteAt (b :: p) (i + 1) = byteAt p i := by
  simp [byteAt]

theorem toNat_byte {n : Nat} (h : n < 256) : (byte n).toNat = n := by
  simp [byte, Nat.mod_eq_of_lt h]

@[simp] theorem toNat_byte_fin8 (n : Fin 8) : (byte n.val).toNat = n.val := toNat_byte (by omega)

@[simp] theorem toNat_byte_fin16 (w : Fin 16) : (byte w.val).toNat = w.val := toNat_byte (by omega)

@[simp] theorem toNat_byte_fin24 (t : Fin 24) : (byte t.val).toNat = t.val := toNat_byte (by omega)

@[simp] theorem byte_toNat (b : Byte) : byte b.toNat = b := by
  simp [byte]

@[simp] theorem idAt_byte_fin8 (n : Fin 8) (p : List Byte) : idAt 8 (byte n.val :: p) 0 = some n := by
  simp [idAt]

@[simp] theorem idAt_byte_fin16 (w : Fin 16) (p : List Byte) : idAt 16 (byte w.val :: p) 0 = some w := by
  simp [idAt]

@[simp] theorem idAt_byte_fin24 (t : Fin 24) (p : List Byte) : idAt 24 (byte t.val :: p) 0 = some t := by
  simp [idAt]

/-- The bytes of a field are as many as its width. -/
@[simp] theorem length_beBytes (k n : Nat) : (beBytes k n).length = k := by
  induction k generalizing n with
  | zero => rfl
  | succ k ih => simp [beBytes, ih]

theorem beValue_append (l : List Byte) (b : Byte) : beValue (l ++ [b]) = beValue l * 256 + b.toNat := by
  simp [beValue]

/-- A field read back is its value, modulo its width. -/
theorem beValue_beBytes (k n : Nat) : beValue (beBytes k n) = n % 256 ^ k := by
  induction k generalizing n with
  | zero => simp [beBytes, beValue, Nat.mod_one]
  | succ k ih =>
    rw [beBytes, beValue_append, ih]
    have h : (BitVec.ofNat 8 n).toNat = n % 256 := by simp
    rw [h, pow_succ, Nat.mul_comm (256 ^ k) 256, Nat.mod_mul, Nat.mul_comm]
    omega

theorem fieldAt_zero_beBytes (k n : Nat) (rest : List Byte) : fieldAt (beBytes k n ++ rest) 0 k = n % 256 ^ k := by
  have h : ((beBytes k n ++ rest).drop 0).take k = beBytes k n := by
    rw [List.drop_zero, List.take_append_of_le_length (by simp), List.take_of_length_le (by simp)]
  simp only [fieldAt, h, beValue_beBytes]

@[simp] theorem fieldAt_cons_succ (b : Byte) (p : List Byte) (i k : Nat) :
    fieldAt (b :: p) (i + 1) k = fieldAt p i k := rfl

end Sys2Proof.Machine
end

