-- ==== Sys2Proof/Tests/Slice0.lean ====
section
/-! SUPPORT. Tests: ill-formed commands refused by WellFormed, values worked in spec/, and for each obligation with
hypotheses a concrete state and operands that meet them all. -/

namespace Sys2Proof.Tests

open Sys2Proof Sys2Proof.Machine

-- Each theorem here waits for the kernel: one after the other, they need one thread.
set_option Elab.async false

/-! ### WellFormed: one ill-formed term for each check -/

/-- R169: a payload of 57 bytes fits no frame. -/
theorem test_wellFormed_refuses_long_payload :
    (Instr.timeSet 0 (List.replicate 57 0)).wellFormed = false := by decide +kernel

/-- R178: 01h is IDENTIFY, which is no unknown request. -/
theorem test_wellFormed_refuses_known_kind : (Instr.unknownRequest 0x01 0 []).wellFormed = false := by decide +kernel

/-- R140: each line is sampled once. -/
theorem test_wellFormed_refuses_repeated_line : (Instr.inputSample 0 [3, 3]).wellFormed = false := by decide +kernel

/-- R170: C3h begins a frame. -/
theorem test_wellFormed_refuses_start_as_noise : (Instr.noiseByte 0xC3).wellFormed = false := by decide +kernel

/-- R171: a length of 56 is accepted. -/
theorem test_wellFormed_refuses_good_length : (Instr.badLengthAbandon 56).wellFormed = false := by decide +kernel

theorem test_wellFormed_accepts :
    ((Instr.timeSet 0 (List.replicate 56 0)).wellFormed && (Instr.unknownRequest 0x04 0 []).wellFormed &&
      (Instr.inputSample 0 [3, 1]).wellFormed && (Instr.noiseByte 0).wellFormed &&
      (Instr.badLengthAbandon 57).wellFormed) = true := by decide +kernel

/-! ### Values of spec/ -/

/-- R172: the nine bytes 31h to 39h give the CRC 29B1h. -/
theorem test_crc_check_value :
    crc16 [0x31, 0x32, 0x33, 0x34, 0x35, 0x36, 0x37, 0x38, 0x39] = 0x29B1 := by decide +kernel

/-- Section 11, the worked TIMER_DEFINE of timer 4: flags 0Dh, scale 02h, output 02h 03h 012Ch, tag 11h. -/
def timer4 : TimerRec where
  state := .idle
  kind := .relative
  mode := .once
  period := 50
  source := .time .ms100
  output := some { line := 2, effect := .pulse 300 }
  notice := some 17
  trigger := none
  remaining := 50
  fires := 0
  lateCount := 0

theorem test_timer4_payload :
    byte 4 :: timer4.definitionBytes =
      [0x04, 0x00, 0x00, 0x0D, 0x00, 0x32, 0x00, 0x00, 0x00, 0x02, 0x02, 0x03, 0x01, 0x2C, 0x11] := by decide +kernel

/-- The state a command leaves; the state itself where there is none. -/
def after (c : Instr) (s : State) : State :=
  match exec c s with
  | .next t => t
  | .fault _ => s
  | .refused _ => s

/-- Section 11: the frame of timer 4's definition defines it; R23 binds line 2. -/
theorem test_define_timer4 :
    (after (.timerDefine 0x21 (byte 4 :: timer4.definitionBytes)) State.reset).timers[4] = some timer4 ∧
    (after (.timerDefine 0x21 (byte 4 :: timer4.definitionBytes)) State.reset).lines[2].binding = some 4 := by
  decide +kernel

/-- R168: C3h is 1100 0011, sent least significant bit first between a LOW start bit and a HIGH stop bit. -/
theorem test_character :
    character 0xC3 = [.low, .high, .high, .low, .low, .low, .low, .high, .high, .high] ∧
    characterByte (List.replicate 10 .low) = 0x00 := by decide +kernel

/-- R168: TXD carries the STARTED frame after a reset, and is HIGH while RST_N is LOW (R187). -/
theorem test_txd :
    (List.range 10).map State.reset.txd = character 0xC3 ∧
    (List.range 10).map (after .rstNAssert State.reset).txd = List.replicate 10 .high := by decide +kernel

/-- Table 11-1: IDENTIFY with tag 00h is C3h 00h 01h 00h and its CRC; its payload is empty, so the length is 0. -/
theorem test_identify_frame_starts : ((Request.identify.frame 0 []).wire.take 4) = [0xC3, 0x00, 0x01, 0x00] := by
  decide +kernel

/-- R167: the STARTED notice is the first frame after a reset, kind 60h, with the payload of Section 11. -/
theorem test_reset_sends_started :
    (after (.powerOn .high 0 .low) State.reset).link.transmitting =
      some { kind := 0x60, tag := 0,
             payload := [1, 0, 1, 0, 0, 0, 0, 0, 0, 0, 0xFF, 0, 0, 0, 0, 0] } := by decide +kernel

/-! ### States the witnesses use -/

def withTimer (t : Fin 24) (r : TimerRec) (s : State) : State := { s with timers := s.timers.set t (some r) }

def withWatch (w : Fin 16) (r : WatchRec) (s : State) : State := { s with watches := s.watches.set w (some r) }

def withEntries (l : List Entry) (s : State) : State := { s with deadlines := l }

def withRole (n : Fin 8) (role : Role) (s : State) : State :=
  { s with inputs := s.inputs.set n { s.inputs[n] with role := role } }

def withBinding (n : Fin 8) (t : Fin 24) (s : State) : State :=
  { s with lines := s.lines.set n { s.lines[n] with binding := some t } }

def at_ (now : Nat) (s : State) : State := { s with elapsed := now }

def entry (o : Owner) (due : Int) (pos : Nat) : Entry :=
  { owner := o, due := due, wall := none, pos := pos, pastDue := false }

/-- A RELATIVE REPEAT TIME timer of interval 2800 ms (timer 5 of Section 1.7). -/
def timer5 : TimerRec :=
  { timer4 with mode := .repeating, period := 28, remaining := 28, output := none, notice := none }

/-- An ABSOLUTE ONCE timer due at wall time 500. -/
def timer7 : TimerRec := { timer4 with kind := .absolute 500, source := .time .ms1 }

/-- A RELATIVE timer that counts expiries of timer 4. -/
def child : TimerRec := { timer5 with source := .parent 4 }

/-- A LINK-sourced watch, and one on IN2. -/
def watch3 : WatchRec where
  state := .dormant
  source := .link
  phase := .opened
  period := 2900
  grace := 1000
  minInterval := 100
  settle := 50
  holdSet := 0x06
  lastRenewal := none
  recovery := 0
  renewals := 0
  warns := 0
  earlyFaults := 0
  outOfStep := 0
  trips := 0

def watchIn2 : WatchRec := { watch3 with source := .line 2 .high }

/-- Watch 3 in an active state, HALF, last renewed at 0, at elapsed time 1000. -/
def activeWatch (st : WatchState) : WatchRec := { watch3 with state := st, phase := .half, lastRenewal := some 0 }

def noticeSent (seq : Nat) (mark : Bool) : Notice :=
  { body := .watchRecovered 3, instant := 0, lostBefore := 2, state := .sent seq mark, attempts := 1 }

def noticeUnsent (body : NoticeBody) : Notice :=
  { body := body, instant := 0, lostBefore := 1, state := .unsent, attempts := 0 }

def withNotices (l : List Notice) (s : State) : State := { s with notices := { s.notices with queue := l } }

theorem forall_timer {s : State} {p : TimerRec → Prop} [DecidablePred p]
    (h : ∀ x : Fin 24, (s.timers[x]).all (fun r => decide (p r)) = true) (x : Fin 24) (r : TimerRec)
    (hx : s.timers[x] = some r) : p r := by
  simpa [hx] using h x

theorem forall_watch {s : State} {p : WatchRec → Prop} [DecidablePred p]
    (h : ∀ x : Fin 16, (s.watches[x]).all (fun r => decide (p r)) = true) (x : Fin 16) (r : WatchRec)
    (hx : s.watches[x] = some r) : p r := by
  simpa [hx] using h x

theorem timer4_definable : timer4.definable 4 :=
  ⟨rfl, by decide, rfl, ⟨rfl, rfl⟩, fun _ h => by simp [timer4] at h, fun _ h => by simp [timer4] at h,
    fun a w h1 h2 => by
      obtain rfl : a = { line := 2, effect := .pulse 300 } := by simpa [timer4] using h1.symm
      obtain rfl : 300 = w := by simpa using h2
      decide,
    fun _ h => by simp [timer4] at h⟩

/-- A definition with every optional part, at the ends of its ranges. -/
def timerFull : TimerRec :=
  { timer4 with
    kind := .absolute 140737488355327, period := 65535, remaining := 65535, trigger := some 23, source := .time .s1
    output := some { line := 7, effect := .pulse 65535 } }

theorem timerFull_definable : timerFull.definable 0 :=
  ⟨rfl, by decide, rfl, ⟨rfl, rfl⟩,
    fun due h => by
      obtain rfl : 140737488355327 = due := by simpa [timerFull] using h
      exact ⟨Nat.le_refl _, .s1, rfl⟩,
    fun _ h => by simp [timerFull] at h,
    fun a w h1 h2 => by
      obtain rfl : a = { line := 7, effect := .pulse 65535 } := by simpa [timerFull] using h1.symm
      obtain rfl : 65535 = w := by simpa using h2
      decide,
    fun u h => by
      obtain rfl : 23 = u := by simpa [timerFull] using h
      decide⟩

theorem child_definable : child.definable 5 :=
  ⟨rfl, by decide, rfl, ⟨rfl, rfl⟩, fun _ h => by simp [child, timer5, timer4] at h,
    fun p h => by
      obtain rfl : 4 = p := by simpa [child] using h
      decide,
    fun _ _ h => by simp [child, timer5] at h, fun _ h => by simp [child, timer5, timer4] at h⟩

/-- A timer that counts rising edges of IN1. -/
def counter : TimerRec := { timer5 with source := .input 1 .rise }

theorem counter_definable : counter.definable 6 :=
  ⟨rfl, by decide, rfl, ⟨rfl, rfl⟩, fun _ h => by simp [counter, timer5, timer4] at h,
    fun p h => by simp [counter] at h,
    fun _ _ h => by simp [counter, timer5] at h, fun _ h => by simp [counter, timer5, timer4] at h⟩

theorem watch3_definable : watch3.definable := by constructor <;> decide

theorem watchIn2_definable : watchIn2.definable := by constructor <;> decide

/-! ### Witnesses: states and operands that meet the hypotheses of each obligation, clause by clause -/

def free (s : State) : State := { s with link := { s.link with transmitting := none } }

def oneFrame : Frame := { kind := 0x09, tag := 1, payload := [] }

def withQueues (rx replies : Nat) (restart : Bool) (s : State) : State :=
  { s with link := { s.link with
      receiveQueue := List.replicate rx oneFrame, replyQueue := List.replicate replies oneFrame,
      restartPending := restart } }

/-- A running device with a frame in transmission and one with none; a byte of the frame, and the bit times after it. -/
theorem witness_FieldCrcAndCharacterBits :
    State.reset.mode = .running ∧ (free State.reset).mode = .running ∧ (free State.reset).link.transmitting = none ∧
    State.reset.link.transmitting =
      some { kind := 0x60, tag := 0, payload := [1, 0, 1, 0, 0, 0, 0, 0, 0, 0, 0xFF, 0, 0, 0, 0, 0] } ∧
    (State.reset.link.transmitting.bind (fun f => f.wire[9 / 10]?)) = some 0xC3 ∧ 10 * (16 + 6) ≤ 220 := by
  decide +kernel

/-- The hypotheses of the statements that ask only for a device ready to take a request: EveryRequestAnswered,
LinkQueryReportsAndClears, ScheduleQueryReportsWindow, LineHoldAndUnhold, LineAndInputQueriesReport. -/
theorem witness_ready : State.reset.ready := by decide +kernel

theorem witness_IdentifyAndTimeGetReport :
    (at_ 281474976710655 State.reset).ready ∧
    0 ≤ (at_ 281474976710655 State.reset).elapsed + (at_ 281474976710655 State.reset).wallOffset ∧
    (at_ 281474976710655 State.reset).elapsed + (at_ 281474976710655 State.reset).wallOffset < 281474976710656 := by
  refine ⟨?_, ?_, ?_⟩ <;> decide +kernel

theorem witness_ready_three_replies : (withQueues 0 3 false State.reset).ready := by decide +kernel

theorem witness_StepRunsFrontCommand :
    ({ State.reset with pending := [.gapTimeout] } : State).pending = .gapTimeout :: [] := rfl

theorem witness_IdleStepAndAbsentEvents :
    State.reset.pending = [] ∧ ({ State.reset with mode := .held .pin } : State).mode = .held .pin ∧
    (({ State.reset with mode := .held .restart } : State).mode = .held .restart ∧
      ∀ n : Fin 8, (0 : BitVec 8).getLsbD n = decide (State.reset.inputs[n].raw = .high)) ∧
    (at_ 250 State.reset).toDevice.headDue = some (entry .resend 250 2) ∧
    ({ State.reset with sampleOwed := true } : State).toDevice.headDue = none ∧
    (State.reset.mode = .running ∧ State.reset.toDevice.headDue = none ∧ State.reset.sampleOwed = false ∧
      State.reset.elapsed < 281474976710655) ∧
    ((at_ 281474976710655 (withEntries [] State.reset)).toDevice.headDue = none ∧
      (at_ 281474976710655 (withEntries [] State.reset)).elapsed = 281474976710655) ∧
    (free State.reset).link.transmitting = none ∧ State.reset.link.restartPending = false := by
  refine ⟨?_, ?_, ⟨?_, ?_⟩, ?_, ?_, ?_, ?_, ?_, ?_⟩ <;> decide +kernel

theorem witness_TimerDefinitionRoundTrip : timerFull.definable 0 ∧ timer4.definable 4 ∧ counter.definable 6 :=
  ⟨timerFull_definable, timer4_definable, counter_definable⟩

/-- All of an IDENTIFY frame but its last byte has been received. -/
def identifyAllButLast : State :=
  { State.reset with link := { State.reset.link with
      assembly := .assembling ((Request.identify.frame 1 []).wire.drop 1).dropLast } }

theorem witness_FrameReceivedByteByByte :
    (identifyAllButLast.mode = .running ∧ ([] : List Byte).length ≤ 56 ∧
      identifyAllButLast.link.assembly = .assembling ((Request.identify.frame 1 []).wire.drop 1).dropLast) ∧
    State.reset.mode = .running ∧ State.reset.link.assembly = .hunting ∧ (List.replicate 56 (0xC3 : Byte)).length ≤ 56 ∧
      Request.ofCode 0x04 = none := by
  refine ⟨⟨?_, ?_, ?_⟩, ?_, ?_, ?_, ?_⟩ <;> decide +kernel

theorem witness_WrongLengthRefused :
    State.reset.ready ∧ Request.timerDefine.lengthFits [0x04, 0x00, 0x00] = false ∧
      Request.watchRetune.lengthFits [] = false ∧ Request.inputConfig.lengthFits [0, 2, 0] = false := by
  refine ⟨?_, ?_, ?_, ?_⟩ <;> decide +kernel

theorem witness_PayloadsFitTheirFrames : State.reset.fault.entries.length ≤ 4 := by decide +kernel

theorem witness_UntakenAndUnknownFrames :
    (withQueues 0 0 true State.reset).link.restartPending = true ∧
    ((withQueues 4 4 false State.reset).link.restartPending = false ∧
      4 ≤ (withQueues 4 4 false State.reset).link.receiveQueue.length) ∧
    ((withQueues 3 4 false State.reset).link.receiveQueue.length < 4 ∧
      4 ≤ (withQueues 3 4 false State.reset).link.replyQueue.length) ∧
    (withQueues 3 4 false State.reset).mode = .running ∧ Request.ofCode 0x60 = none := by
  refine ⟨?_, ?_, ?_, ?_, ?_⟩ <;> decide +kernel

/-- Section 1.7 at 2500: timer 7's entry at 4500 with due wall time 50 003 500, and TIME_SET(50 003 000). -/
def stepping : State :=
  { at_ 2500 (withEntries
      [entry (.watch 3) 4000 2, entry (.timer 5) 4000 3,
       { owner := .timer 7, due := 4500, wall := some 50003500, pos := 4, pastDue := false },
       entry (.watch 0) 6000 5] State.reset) with wallOffset := 49999000 }

theorem stepping_ordered : stepping.toDevice.listOrdered := by
  refine ⟨?_, ?_, ?_⟩ <;> decide +kernel

theorem stepping_settled : stepping.toDevice.settled := by
  refine ⟨by decide +kernel, ?_⟩
  intro e he hw
  rcases (by simpa [stepping, withEntries, at_] using he :
    e = entry (.watch 3) 4000 2 ∨ e = entry (.timer 5) 4000 3 ∨
      e = { owner := .timer 7, due := 4500, wall := some 50003500, pos := 4, pastDue := false } ∨
      e = entry (.watch 0) 6000 5) with rfl | rfl | rfl | rfl
  · cases hw
  · cases hw
  · exact ⟨7, rfl⟩
  · cases hw

theorem reset_settled : State.reset.toDevice.settled := by
  refine ⟨by decide +kernel, ?_⟩
  intro e he hw
  rcases (by simpa [State.reset] using he :
    e = { owner := .resend, due := 250, wall := none, pos := 2, pastDue := false } ∨
      e = { owner := .watch 0, due := 4000, wall := none, pos := 1, pastDue := false }) with rfl | rfl <;> cases hw

/-- Table 1-4, at 2500: TIME_SET(50 003 000) re-keys timer 7 from 4500 to 3000, before the others; step 1500, count 0. -/
theorem test_time_set_forward :
    (after (.timeSet 0 (beBytes 6 50003000)) stepping).deadlines.map (fun e => (e.owner, e.due)) =
      [(.timer 7, 3000), (.watch 3, 4000), (.timer 5, 4000), (.watch 0, 6000)] ∧
    (after (.timeSet 0 (beBytes 6 50003000)) stepping).wallOffset = 50000500 ∧
    (takeTimeSet (beBytes 6 50003000) stepping.toDevice).2 = [0x00, 0, 0, 0, 0, 0x05, 0xDC, 0x00] := by decide +kernel

/-- Section 1.8 at 10 000: timers 2, 9 and 4 RUNNING, ABSOLUTE ONCE, and a TIME_SET(60 000). -/
def largeStep : State :=
  let r (due : Nat) : TimerRec := { timer7 with kind := .absolute due, state := .running, output := none }
  at_ 10000 (withTimer 2 (r 70000) (withTimer 9 (r 40000) (withTimer 4 (r 40000) (withEntries
    [entry (.watch 3) 11000 5, entry (.watch 0) 12000 1,
     { owner := .timer 9, due := 40000, wall := some 40000, pos := 3, pastDue := false },
     { owner := .timer 4, due := 40000, wall := some 40000, pos := 4, pastDue := false },
     { owner := .timer 2, due := 70000, wall := some 70000, pos := 2, pastDue := false }] State.reset))))

/-- Section 1.8: timers 9 and 4 are past due and handed over within the request, timer 2 moves to 20 000. -/
theorem test_time_set_past_due :
    (after (.timeSet 0 (beBytes 6 60000)) largeStep).deadlines.map (fun e => (e.owner, e.due)) =
      [(.watch 3, 11000), (.watch 0, 12000), (.timer 2, 20000)] ∧
    ((after (.timeSet 0 (beBytes 6 60000)) largeStep).timers[9].map TimerRec.lateCount,
      (after (.timeSet 0 (beBytes 6 60000)) largeStep).timers[4].map TimerRec.state) = (some 1, some .idle) ∧
    (takeTimeSet (beBytes 6 60000) largeStep.toDevice).2 = [0x00, 0, 0, 0, 0, 0xC3, 0x50, 0x02] := by decide +kernel

/-- A TIME_SET after which no absolute entry is past due. -/
theorem witness_TimeSetMovesAbsoluteEntriesAlone :
    stepping.ready ∧ stepping.toDevice.listOrdered ∧ stepping.toDevice.settled ∧ 50003000 ≤ 140737488355327 ∧
    stepping.elapsed < 140737488355328 ∧ 0 ≤ stepping.wallOffset + stepping.elapsed ∧
    stepping.wallOffset + stepping.elapsed ≤ 140737488355328 ∧
    (∀ e ∈ stepping.deadlines, (e.wall.all (fun w => decide (50003000 < w))) = true) :=
  ⟨by decide +kernel, stepping_ordered, stepping_settled, by decide, by decide +kernel, by decide +kernel,
    by decide +kernel, by decide +kernel⟩

theorem largeStep_entry (e : Entry) (he : e ∈ largeStep.deadlines) :
    e = entry (.watch 3) 11000 5 ∨ e = entry (.watch 0) 12000 1 ∨
      e = { owner := .timer 9, due := 40000, wall := some 40000, pos := 3, pastDue := false } ∨
      e = { owner := .timer 4, due := 40000, wall := some 40000, pos := 4, pastDue := false } ∨
      e = { owner := .timer 2, due := 70000, wall := some 70000, pos := 2, pastDue := false } := by
  simpa [largeStep, withTimer, withEntries, at_] using he

theorem largeStep_settled : largeStep.toDevice.settled := by
  refine ⟨by decide +kernel, fun e he hw => ?_⟩
  rcases largeStep_entry e he with rfl | rfl | rfl | rfl | rfl
  · cases hw
  · cases hw
  · exact ⟨9, rfl⟩
  · exact ⟨4, rfl⟩
  · exact ⟨2, rfl⟩

theorem largeStep_childless (t : Fin 24) (x : Fin 24) (rx : TimerRec) (h : largeStep.timers[x] = some rx) :
    rx.source ≠ .parent t := by
  have hs : rx.source = .time .ms1 :=
    forall_timer (s := largeStep) (p := fun r => r.source = .time .ms1) (by decide +kernel) x rx h
  rw [hs]
  exact fun hp => (by cases hp)

theorem largeStep_expires (t : Fin 24)
    (h : largeStep.timers[t] = some { timer7 with kind := .absolute 40000, state := .running, output := none } ∧
      Owner.timer t ∉ largeStep.handed) :
    ∃ (r : TimerRec) (sc : Scale), Owner.timer t ∉ largeStep.handed ∧ largeStep.timers[t] = some r ∧
      r.kind = .absolute 40000 ∧ r.source = .time sc ∧ r.trigger = none ∧
      ∀ (x : Fin 24) rx, largeStep.timers[x] = some rx → rx.source ≠ .parent t :=
  ⟨_, .ms1, h.2, h.1, rfl, rfl, rfl, largeStep_childless t⟩

theorem largeStep_expires_9_4 :
    (largeStep.timers[9] = some { timer7 with kind := .absolute 40000, state := .running, output := none } ∧
      Owner.timer 9 ∉ largeStep.handed) ∧
    largeStep.timers[4] = some { timer7 with kind := .absolute 40000, state := .running, output := none } ∧
      Owner.timer 4 ∉ largeStep.handed := by decide +kernel

/-- Section 1.8, and a TIME_SET to the very due wall time 40 000 of timers 9 and 4: two entries past due. -/
theorem witness_TimeSetMovesAbsoluteEntriesAlone_pastDue (wall : Nat) (h : wall = 60000 ∨ wall = 40000) :
    (largeStep.ready ∧ largeStep.toDevice.listOrdered ∧ largeStep.toDevice.settled) ∧
    (wall ≤ 140737488355327 ∧ largeStep.elapsed < 140737488355328 ∧ 0 ≤ largeStep.wallOffset + largeStep.elapsed ∧
      largeStep.wallOffset + largeStep.elapsed ≤ 140737488355328) ∧
    ∀ e ∈ largeStep.deadlines, ∀ w, e.wall = some w → w ≤ wall →
      ∃ (t : Fin 24) (r : TimerRec) (sc : Scale), e.owner = .timer t ∧ .timer t ∉ largeStep.handed ∧
        largeStep.timers[t] = some r ∧ r.kind = .absolute w ∧ r.source = .time sc ∧ r.trigger = none ∧
        ∀ (x : Fin 24) rx, largeStep.timers[x] = some rx → rx.source ≠ .parent t := by
  refine ⟨⟨by decide +kernel, ⟨by decide +kernel, by decide +kernel, by decide +kernel⟩, largeStep_settled⟩,
    ⟨by omega, by decide +kernel, by decide +kernel, by decide +kernel⟩, fun e he w hw hle => ?_⟩
  rcases largeStep_entry e he with rfl | rfl | rfl | rfl | rfl
  · cases hw
  · cases hw
  · obtain rfl := Option.some.inj hw
    obtain ⟨r, sc, hr⟩ := largeStep_expires 9 largeStep_expires_9_4.1
    exact ⟨9, r, sc, rfl, hr⟩
  · obtain rfl := Option.some.inj hw
    obtain ⟨r, sc, hr⟩ := largeStep_expires 4 largeStep_expires_9_4.2
    exact ⟨4, r, sc, rfl, hr⟩
  · obtain rfl := Option.some.inj hw
    omega

/-- An insertion after now, at now by an owner not handed over, and at now by one that has been. -/
theorem witness_InsertionPlacesEntry :
    stepping.toDevice.listOrdered ∧ (stepping.elapsed : Int) < min 2501 281474976710655 ∧
    (min 2500 281474976710655 ≤ (stepping.elapsed : Int) ∧ .timer 7 ∉ stepping.handed) ∧
    .timer 7 ∈ ({ stepping with handed := [.timer 7] } : State).handed :=
  ⟨stepping_ordered, by decide +kernel, ⟨by decide +kernel, by decide +kernel⟩, by decide +kernel⟩

/-- TIMER_DEFINE: timer 4 FREE; redefined from IDLE with its line kept; a child of it; a counter of IN1. -/
theorem witness_TimerDefineStores :
    (State.reset.ready ∧ timer4.definable 4 ∧ State.reset.timers[4] = none ∧
      State.reset.toDevice.chainCheck 4 timer4.source = .ok ∧ State.reset.lines[2].binding = none) ∧
    (timer4.definable 4 ∧ (withBinding 2 4 (withTimer 4 timer4 State.reset)).timers[4] = some timer4 ∧
      (withBinding 2 4 (withTimer 4 timer4 State.reset)).lines[2].binding = some 4) ∧
    (child.definable 5 ∧ (withTimer 4 timer4 State.reset).timers[4].isSome ∧
      (withTimer 4 timer4 State.reset).toDevice.chainCheck 5 child.source = .ok) ∧
    (counter.definable 6 ∧ State.reset.inputs[1].role = .none) :=
  ⟨⟨by decide +kernel, timer4_definable, by decide +kernel, by decide +kernel, by decide +kernel⟩,
    ⟨timer4_definable, by decide +kernel, by decide +kernel⟩,
    ⟨child_definable, by decide +kernel, by decide +kernel⟩, ⟨counter_definable, by decide +kernel⟩⟩

/-- Timers 3, 2, 1 and 0 in a chain of depth 4: 3 counts 2, 2 counts 1, 1 counts 0. -/
def chain : State :=
  withTimer 0 timer5 (withTimer 1 { child with source := .parent 0 }
    (withTimer 2 { child with source := .parent 1 } (withTimer 3 { child with source := .parent 2 } State.reset)))

theorem chain_bounded : chain.toDevice.chainsBounded := by
  refine ⟨by decide +kernel, by decide +kernel⟩

def child3 : TimerRec := { child with source := .parent 3 }

theorem child3_definable (t : Fin 24) (h : t ≠ 3) : child3.definable t :=
  ⟨rfl, by decide, rfl, ⟨rfl, rfl⟩, fun _ h => by simp [child3, child, timer5, timer4] at h,
    fun p hp => by
      obtain rfl : 3 = p := by simpa [child3] using hp
      exact h.symm,
    fun _ _ h => by simp [child3, child, timer5] at h, fun _ h => by simp [child3, child, timer5, timer4] at h⟩

theorem witness_TimerRequestsRefusedInOrder :
    (child.definable 5 ∧ State.reset.timers[4] = none) ∧
    (timer4.definable 4 ∧ (withBinding 2 9 State.reset).lines[2].binding = some 9) ∧
    (counter.definable 6 ∧ (withRole 1 (.count 7) State.reset).inputs[1].role = .count 7) ∧
    (timer4.definable 4 ∧
      (withTimer 4 { timer4 with state := .running } State.reset).timers[4] = some { timer4 with state := .running }) ∧
    (chain.toDevice.chainsBounded ∧ child3.definable 0 ∧ chain.timers[0] = some timer5 ∧
      ((chain.toDevice.parentOf 3).bind chain.toDevice.parentOf).bind chain.toDevice.parentOf = some 0) ∧
    (child3.definable 9 ∧ chain.toDevice.inSubtree 9 3 = false ∧ chain.toDevice.inSubtree 9 9 = true ∧
      4 < chainDepth (chain.toDevice.parentsWith 9 3) 24 9) ∧
    (23 < (24 : Byte).toNat ∧ (4 : Byte) = byte (4 : Fin 24)) :=
  ⟨⟨child_definable, by decide +kernel⟩, ⟨timer4_definable, by decide +kernel⟩,
    ⟨counter_definable, by decide +kernel⟩, ⟨timer4_definable, by decide +kernel⟩,
    ⟨chain_bounded, child3_definable 0 (by decide), by decide +kernel, by decide +kernel⟩,
    ⟨child3_definable 9 (by decide), by decide +kernel, by decide +kernel, by decide +kernel⟩,
    ⟨by decide, by decide +kernel⟩⟩

/-- R191: timer 4 with flag bit 0 clear is 14 bytes long, with the scale absent for a TIME source. The other payloads
each have one argument just out of its range: id 24, flag bit 5, scale 4, output line 8, effect 4, PULSE width 0, a source
code 3, a parent that is the timer itself, an edge code 3, a trigger target 24. -/
theorem witness_TimerRequestsRefusedInOrder_badArg :
    ([[0x04, 0x00, 0x00, 0x0C, 0x00, 0x32, 0x00, 0x00, 0x00, 0x02, 0x03, 0x01, 0x2C, 0x11],
      [0x18, 0x00, 0x00, 0x0D, 0x00, 0x32, 0x00, 0x00, 0x00, 0x02, 0x02, 0x03, 0x01, 0x2C, 0x11],
      [0x04, 0x00, 0x00, 0x21, 0x00, 0x32, 0x00, 0x00, 0x00, 0x02],
      [0x04, 0x00, 0x00, 0x01, 0x00, 0x32, 0x00, 0x00, 0x00, 0x04],
      [0x04, 0x00, 0x00, 0x05, 0x00, 0x32, 0x00, 0x00, 0x00, 0x02, 0x08, 0x00, 0x00, 0x00],
      [0x04, 0x00, 0x00, 0x05, 0x00, 0x32, 0x00, 0x00, 0x00, 0x02, 0x07, 0x04, 0x00, 0x00],
      [0x04, 0x00, 0x00, 0x05, 0x00, 0x32, 0x00, 0x00, 0x00, 0x02, 0x07, 0x03, 0x00, 0x00],
      [0x04, 0x00, 0x00, 0x00, 0x00, 0x32, 0x03, 0x00, 0x00], [0x04, 0x00, 0x00, 0x00, 0x00, 0x32, 0x01, 0x04, 0x00],
      [0x04, 0x00, 0x00, 0x00, 0x00, 0x32, 0x02, 0x07, 0x03],
      [0x04, 0x00, 0x00, 0x11, 0x00, 0x32, 0x00, 0x00, 0x00, 0x02, 0x18]] : List (List Byte)).all
      (fun p => Request.timerDefine.lengthFits p && (takeTimerDefine p State.reset.toDevice).2.head? == some 0x12) =
      true := by decide +kernel

/-- TIMER_START: timer 5 RELATIVE, timer 7 ABSOLUTE with its due wall time ahead, a counter. -/
theorem witness_TimerStartRunsOrExpiresLate :
    ((withTimer 5 timer5 State.reset).ready ∧ (withTimer 5 timer5 State.reset).toDevice.settled ∧
      timer5.state = .idle ∧ timer5.kind = .relative ∧ timer5.source = .time .ms100 ∧ 0 < timer5.period) ∧
    (timer7.kind = .absolute 500 ∧
      ((withTimer 7 timer7 State.reset).elapsed : Int) < 500 - (withTimer 7 timer7 State.reset).wallOffset) ∧
    (counter.kind = .relative ∧ (∀ sc, counter.source ≠ .time sc) ∧
      (withTimer 6 counter State.reset).toDevice.entryOf (.timer 6) = none) ∧
    ((at_ 500 (withEntries [] (withTimer 7 timer7 State.reset))).toDevice.settled ∧ timer7.mode = .once ∧
      timer7.trigger = none ∧
      (∀ (x : Fin 24) rx, (at_ 500 (withEntries [] (withTimer 7 timer7 State.reset))).timers[x] = some rx →
        rx.source ≠ .parent 7) ∧
      (500 : Int) - (at_ 500 (withEntries [] (withTimer 7 timer7 State.reset))).wallOffset ≤
        (at_ 500 (withEntries [] (withTimer 7 timer7 State.reset))).elapsed ∧
      .timer 7 ∉ (at_ 500 (withEntries [] (withTimer 7 timer7 State.reset))).handed) :=
  ⟨⟨by decide +kernel, reset_settled, rfl, rfl, rfl, by decide⟩, ⟨rfl, by decide +kernel⟩,
    ⟨rfl, fun _ h => by simp [counter] at h, by decide +kernel⟩,
    ⟨⟨fun _ h => by simp [withEntries, at_] at h, fun _ h => by simp [withEntries, at_] at h⟩, rfl, rfl,
      forall_timer (by decide +kernel), by decide +kernel, by decide +kernel⟩⟩

def running5 : TimerRec := { timer5 with state := .running }

/-- Timer 5 RUNNING with 2650 ms left at elapsed time 150, which is 26.5 of its units (R37). -/
def started5 : State := at_ 150 (withEntries [entry (.timer 5) 2800 1] (withTimer 5 running5 State.reset))

theorem witness_TimerStopPauseResume :
    (started5.ready ∧ started5.timers[5] = some running5 ∧ running5.state ≠ .idle ∧
      (withTimer 5 timer5 State.reset).timers[5] = some timer5 ∧ timer5.state = .idle) ∧
    (running5.kind = .relative ∧ running5.source = .time .ms100 ∧
      started5.toDevice.entryOf (.timer 5) = some (entry (.timer 5) 2800 1)) ∧
    (∀ sc, ({ counter with state := .running } : TimerRec).source ≠ .time sc) ∧
    (({ timer5 with state := .paused } : TimerRec).state = .paused ∧ 0 < timer5.remaining ∧
      State.reset.elapsed < 281474976710655) ∧
    State.reset.toDevice.entryOf (.timer 6) = none :=
  ⟨⟨by decide +kernel, by decide +kernel, by decide, by decide +kernel, rfl⟩, ⟨rfl, rfl, by decide +kernel⟩,
    fun _ h => by simp [counter] at h, ⟨rfl, by decide, by decide +kernel⟩, by decide +kernel⟩

theorem witness_TimerFreeRemoves :
    ((withTimer 5 child (withTimer 4 timer4 State.reset)).timers[4] = some timer4 ∧
      (withTimer 5 child (withTimer 4 timer4 State.reset)).timers[5] = some child ∧ child.source = .parent 4) ∧
    ((withRole 1 (.trigger 4 .rise .start) (withTimer 4 timer4 State.reset)).inputs[1].role = .trigger 4 .rise .start) ∧
    ((∀ (x : Fin 24) rx, (withTimer 4 timer4 State.reset).timers[x] = some rx →
        ¬(rx.source = .parent 4 ∨ rx.trigger = some 4)) ∧
      (∀ n : Fin 8, (withTimer 4 timer4 State.reset).inputs[n].role = .none) ∧ timer4.state = .idle) ∧
    running5.state ≠ .idle :=
  ⟨⟨by decide +kernel, by decide +kernel, rfl⟩, by decide +kernel,
    ⟨forall_timer (by decide +kernel), by decide +kernel, rfl⟩, by decide⟩

theorem witness_TimerQueryReports :
    started5.ready ∧ started5.timers[5] = some running5 ∧ (started5.toDevice.entryOf (.timer 5)).isSome := by
  refine ⟨?_, ?_, ?_⟩ <;> decide +kernel

/-- Timer 4 RUNNING and due at 5000, with no other timer defined; `r` is its record. -/
def dueTimer (r : TimerRec) (wall : Option Nat) : State :=
  at_ 5000 (withEntries [{ owner := .timer 4, due := 5000, wall := wall, pos := 1, pastDue := false }]
    (withTimer 4 r State.reset))

theorem dueTimer_settled (r : TimerRec) (wall : Option Nat) : (dueTimer r wall).toDevice.settled := by
  constructor
  · intro e he
    obtain rfl : e = { owner := .timer 4, due := 5000, wall := wall, pos := 1, pastDue := false } := by
      simpa [dueTimer, withEntries, at_] using he
    rfl
  · intro e he _
    obtain rfl : e = { owner := .timer 4, due := 5000, wall := wall, pos := 1, pastDue := false } := by
      simpa [dueTimer, withEntries, at_] using he
    exact ⟨4, rfl⟩

def running4 : TimerRec := { timer4 with state := .running }

def absolute4 (mode : TimerMode) : TimerRec := { running4 with mode := mode, kind := .absolute 5000 }

/-- At wall time 5000 the due wall time 3000 lies 2000 ms back, less than the interval of 5000 ms. -/
def lateTimer : State := dueTimer { absolute4 .repeating with kind := .absolute 3000 } (some 3000)

theorem witness_TimerExpiryRunsItsStages :
    ((dueTimer running4 none).mode = .running ∧ (dueTimer running4 none).toDevice.settled ∧
      (dueTimer running4 none).toDevice.headDue =
        some { owner := .timer 4, due := 5000, wall := none, pos := 1, pastDue := false } ∧
      (dueTimer running4 none).timers[4] = some running4 ∧ running4.source = .time .ms100 ∧ 0 < running4.period ∧
      running4.trigger = none ∧ running4.kind = .relative ∧ running4.mode = .once ∧
      (∀ (x : Fin 24) rx, (dueTimer running4 none).timers[x] = some rx → rx.source ≠ .parent 4)) ∧
    (({ running4 with mode := .repeating } : TimerRec).mode = .repeating) ∧
    ((dueTimer (absolute4 .once) (some 5000)).elapsed + (dueTimer (absolute4 .once) (some 5000)).wallOffset =
      ((5000 : Nat) : Int)) ∧
    (((3000 : Nat) : Int) ≤ lateTimer.elapsed + lateTimer.wallOffset ∧
      (3000 + 0 * (50 * 100) : Int) ≤ lateTimer.elapsed + lateTimer.wallOffset ∧
      lateTimer.elapsed + lateTimer.wallOffset < (3000 + (0 + 1) * (50 * 100) : Int)) :=
  ⟨⟨by decide +kernel, dueTimer_settled _ _, by decide +kernel, by decide +kernel, rfl, by decide, rfl, rfl, rfl,
      forall_timer (by decide +kernel)⟩, rfl, by decide +kernel, by decide +kernel⟩

/-- Timer 4 due at 5000, which triggers timer 7, ABSOLUTE ONCE with its due wall time `due`. -/
def triggering (due : Nat) : State :=
  withTimer 7 { timer7 with kind := .absolute due } (dueTimer { running4 with trigger := some 7 } none)

/-- A trigger on an IDLE ABSOLUTE timer whose due wall time lies ahead, is now, and has passed. -/
theorem witness_TimerExpiryRunsItsStages_trigger (due : Nat) (h : due = 5001 ∨ due = 5000 ∨ due = 4999) :
    (triggering due).toDevice.settled ∧
    (triggering due).toDevice.headDue =
      some { owner := .timer 4, due := 5000, wall := none, pos := 1, pastDue := false } ∧
    (triggering due).timers[4] = some { running4 with trigger := some 7 } ∧
    (∀ (t : Fin 24) (x : Fin 24) rx, (triggering due).timers[x] = some rx → rx.source ≠ .parent t) ∧
    ((7 : Fin 24) ≠ 4 ∧ (triggering due).elapsed < 281474976710655 ∧
      (triggering due).timers[7] = some { timer7 with kind := .absolute due } ∧ timer7.trigger = none ∧
      timer7.source = .time .ms1) := by
  refine ⟨dueTimer_settled { running4 with trigger := some 7 } none, ?_, ?_, fun t x rx hx hp => ?_, ?_⟩
  · rcases h with rfl | rfl | rfl <;> decide +kernel
  · rcases h with rfl | rfl | rfl <;> decide +kernel
  · have hs : rx.source = .time .ms1 ∨ rx.source = .time .ms100 :=
      forall_timer (s := triggering due) (p := fun r => r.source = .time .ms1 ∨ r.source = .time .ms100)
        (by rcases h with rfl | rfl | rfl <;> decide +kernel) x rx hx
    rw [hp] at hs
    rcases hs with hs | hs <;> cases hs
  · rcases h with rfl | rfl | rfl <;> decide +kernel

def parentDue : State := withTimer 5 { child with state := .running } (dueTimer { running4 with mode := .repeating } none)

theorem witness_ExpiryCountsIntoChildren :
    parentDue.toDevice.settled ∧ parentDue.link.receiveQueue = [] ∧
    parentDue.toDevice.headDue = some { owner := .timer 4, due := 5000, wall := none, pos := 1, pastDue := false } ∧
    parentDue.timers[4] = some { running4 with mode := .repeating } ∧
    (∀ (x : Fin 24) rx, parentDue.timers[x] = some rx →
      (rx.source = .parent 4 → rx.state = .running → 2 ≤ rx.remaining)) :=
  ⟨dueTimer_settled { running4 with mode := .repeating } none, by decide +kernel, by decide +kernel, by decide +kernel,
    forall_timer (p := fun rx => rx.source = .parent 4 → rx.state = .running → 2 ≤ rx.remaining) (by decide +kernel)⟩

/-- Timer 4 due, acting on nothing, with two children that need one count and one that needs two. -/
def lastCounts : State :=
  withTimer 5 { child with state := .running, remaining := 1, output := some { line := 1, effect := .toggle } }
    (withTimer 9 { child with state := .running, remaining := 1, notice := some 9 }
      (withTimer 7 { child with state := .running, remaining := 2 }
        (dueTimer { running4 with output := none, notice := none } none)))

theorem witness_ExpiryCountsIntoChildren_last :
    lastCounts.toDevice.settled ∧
    lastCounts.toDevice.headDue = some { owner := .timer 4, due := 5000, wall := none, pos := 1, pastDue := false } ∧
    lastCounts.timers[4] = some { running4 with output := none, notice := none } ∧
    (running4.kind = .relative ∧ running4.source = .time .ms100 ∧ 0 < running4.period ∧ running4.trigger = none) ∧
    (∀ (x : Fin 24) rx, lastCounts.timers[x] = some rx →
      1 ≤ rx.remaining ∧ rx.kind = .relative ∧ rx.trigger = none ∧ rx.source ≠ .parent 5 ∧ rx.source ≠ .parent 9) ∧
    lastCounts.timers[9] = some { child with state := .running, remaining := 1, notice := some 9 } :=
  ⟨dueTimer_settled { running4 with output := none, notice := none } none, by decide +kernel, by decide +kernel,
    ⟨rfl, rfl, by decide, rfl⟩,
    forall_timer (p := fun rx =>
      1 ≤ rx.remaining ∧ rx.kind = .relative ∧ rx.trigger = none ∧ rx.source ≠ .parent 5 ∧ rx.source ≠ .parent 9)
      (by decide +kernel), by decide +kernel⟩

/-- R60: timers 5 and 9 expire, in that order, within timer 4's expiry, and timer 7 counts one. -/
theorem test_last_counts :
    (after .timerExpiry lastCounts).timers[5].map TimerRec.fires = some 1 ∧
    (after .timerExpiry lastCounts).timers[7].map TimerRec.remaining = some 1 ∧
    (after .timerExpiry lastCounts).lines[1].shadow = .active := by decide +kernel

theorem witness_WatchDefineAndStart :
    (State.reset.ready ∧ watchIn2.definable ∧ State.reset.watches[3] = none ∧ State.reset.inputs[2].role = .none) ∧
    (withWatch 3 watch3 State.reset).watches[3] = some watch3 ∧ watch3.state = .dormant ∧
    State.reset.elapsed < 281474976710655 ∧ 0 < watch3.period :=
  ⟨⟨by decide +kernel, watchIn2_definable, by decide +kernel, by decide +kernel⟩, by decide +kernel, rfl,
    by decide +kernel, by decide⟩

theorem witness_WatchRequestsRefused :
    15 < (16 : Byte).toNat ∧ (3 : Byte) = byte (3 : Fin 16) ∧ State.reset.watches[3] = none ∧ watchIn2.definable ∧
    (withRole 2 (.count 1) State.reset).inputs[2].role = .count 1 ∧ watch3.definable ∧
    (withWatch 3 (activeWatch .running) State.reset).watches[3] = some (activeWatch .running) ∧
    watchIn2.source ≠ .link ∧ watch3.source = .link ∧ watch3.state = .dormant ∧
    (activeWatch .tripped).state = .tripped ∧ (activeWatch .running).state ≠ .tripped ∧
    (State.reset.watches[(0 : Fin 16)] = some WatchRec.linkDefault ∧ (0 : Byte) = byte (0 : Fin 16) ∧
      WatchRec.linkDefault.state ≠ .dormant ∧ WatchRec.linkDefault.state ≠ .tripped) :=
  ⟨by decide, by decide +kernel, by decide +kernel, watchIn2_definable, by decide +kernel, watch3_definable,
    by decide +kernel, by decide, by decide, by decide, by decide, by decide, by decide +kernel, by decide +kernel,
    by decide, by decide⟩

/-- WATCH_DEFINE and WATCH_RETUNE payloads with one argument just out of its range, and one with none. -/
theorem witness_WatchRequestsRefused_badArg :
    (60001 < 65536 ∧ 9 < 10 ∧ 60000 < 60001 ∧ 2900 ≤ 2900 ∧ 10000 < 10001 ∧ 15 < (16 : Byte).toNat ∧
      1 < (2 : Byte).toNat ∧ 7 < (8 : Byte).toNat ∧ 3 < (4 : Byte).toNat ∧ (9 : Byte).toNat < 10 ∧
      250 < (251 : Byte).toNat) ∧
    ¬(2900 < 10 ∨ 60000 < 2900 ∨ 1000 < 10 ∨ 60000 < 1000 ∨ 2900 ≤ 100 ∨ 10000 < 50) ∧
    ((3 : Byte).toNat ≤ 3 ∧ 10 ≤ (10 : Byte).toNat ∧ (10 : Byte).toNat ≤ 250 ∧
      (withWatch 0 { WatchRec.linkDefault with state := .tripped } State.reset).watches[(0 : Fin 16)] =
        some { WatchRec.linkDefault with state := .tripped }) := by
  refine ⟨?_, ?_, ?_⟩ <;> decide +kernel

def watching (r : WatchRec) : State := at_ 1000 (withWatch 3 r State.reset)

theorem witness_CheckPrepAndOutOfStep :
    (watching { activeWatch .running with phase := .opened }).ready ∧
    (watching (activeWatch .releasing)).watches[3] = some (activeWatch .releasing) ∧
    (activeWatch .releasing).source = .link ∧ (activeWatch .releasing).state ≠ .dormant ∧
    (activeWatch .releasing).phase = .half := by
  refine ⟨?_, ?_, ?_, ?_, ?_⟩ <;> decide +kernel

theorem witness_ConfirmRenews (st : WatchState) :
    (watching (activeWatch st)).ready ∧ (watching (activeWatch st)).watches[3] = some (activeWatch st) ∧
    (activeWatch st).source = .link ∧ (activeWatch st).phase = .half ∧
    (∀ l, (activeWatch st).lastRenewal = some l → l + (activeWatch st).minInterval ≤
      (watching (activeWatch st)).elapsed) :=
  ⟨by cases st <;> decide +kernel, by cases st <;> decide +kernel, rfl, rfl, fun l h => by
    obtain rfl : 0 = l := by simpa [activeWatch] using h
    cases st <;> decide +kernel⟩

theorem witness_ConfirmEarlyEscalates (st : WatchState) :
    (at_ 99 (watching (activeWatch st))).ready ∧ (activeWatch st).lastRenewal = some 0 ∧
    (at_ 99 (watching (activeWatch st))).elapsed < 0 + (activeWatch st).minInterval ∧ (3 : Fin 16) ≠ 0 := by
  cases st <;> refine ⟨?_, ?_, ?_, ?_⟩ <;> decide +kernel

/-- Watch 0 as after reset, in HALF. -/
def linkHalf : WatchRec := { WatchRec.linkDefault with phase := .half }

theorem witness_WatchRetuneStores :
    ((watching (activeWatch .warn)).ready ∧ (activeWatch .warn).state = .warn ∧ 9 < 10 ∧ 10000 ≤ 10000) ∧
    (withWatch 0 linkHalf State.reset).watches[(0 : Fin 16)] = some linkHalf ∧ linkHalf.state = .running ∧
    [250, 1000, 4000, 16000][(3 : Fin 4).val]? = some 16000 ∧ 10 ≤ (250 : Byte).toNat ∧ (250 : Byte).toNat ≤ 250 := by
  refine ⟨⟨?_, ?_, ?_, ?_⟩, ?_, ?_, ?_, ?_, ?_⟩ <;> decide +kernel

/-- Out of step in OPEN; early in HALF at 99, with min interval 100 and the last renewal at 0. -/
theorem witness_WatchRetuneStores_otherwise :
    ((watching { activeWatch .running with phase := .opened }).ready ∧
      ({ activeWatch .running with phase := .opened } : WatchRec).phase = .opened) ∧
    (withWatch 0 WatchRec.linkDefault State.reset).watches[(0 : Fin 16)] = some WatchRec.linkDefault ∧
    ((at_ 99 (watching (activeWatch .warn))).ready ∧ (activeWatch .warn).phase = .half ∧
      (activeWatch .warn).lastRenewal = some 0 ∧
      (at_ 99 (watching (activeWatch .warn))).elapsed < 0 + (activeWatch .warn).minInterval) ∧
    (10 ≤ 10 ∧ 60000 ≤ 60000 ∧ 9 < 10 ∧ 10000 ≤ 10000 ∧ (3 : Byte).toNat ≤ 3 ∧ 10 ≤ (250 : Byte).toNat ∧
      (250 : Byte).toNat ≤ 250) := by
  refine ⟨?_, ?_, ?_, ?_⟩ <;> decide +kernel

theorem witness_WatchRetireFrees :
    (watching watch3).watches[3] = some watch3 ∧ watch3.state = .dormant ∧
    (watching (activeWatch .warn)).watches[3] = some (activeWatch .warn) ∧
    (watching { watchIn2 with state := .running }).watches[3] = some { watchIn2 with state := .running } ∧
    watchIn2.phase = .opened := by
  refine ⟨?_, ?_, ?_, ?_, ?_⟩ <;> decide +kernel

/-- Watch 3 on IN2, whose line is active, last renewed at 0. -/
def lineHalf (st : WatchState) : WatchRec := { activeWatch st with source := .line 2 .high }

def lineHigh (st : WatchState) : State :=
  at_ 99 (watching (lineHalf st)) |> fun s =>
    { s with inputs := s.inputs.set (2 : Fin 8) { s.inputs[(2 : Fin 8)] with filtered := .high } }

theorem witness_WatchRetireFrees_early (st : WatchState) (h : st = .running ∨ st = .warn) :
    ((lineHigh st).ready ∧ (lineHigh st).watches[3] = some (lineHalf st) ∧ (lineHalf st).phase = .half ∧
      (lineHalf st).lastRenewal = some 0 ∧ (lineHigh st).elapsed < 0 + (lineHalf st).minInterval) ∧
    (∀ n a, (lineHalf st).source = .line n a → (lineHigh st).inputs[n].filtered = a) ∧
    ((at_ 99 (watching (activeWatch st))).watches[3] = some (activeWatch st) ∧ (activeWatch st).source = .link) := by
  refine ⟨by rcases h with rfl | rfl <;> decide +kernel, fun n a hs => ?_,
    by rcases h with rfl | rfl <;> decide +kernel⟩
  obtain ⟨rfl, rfl⟩ : (2 : Fin 8) = n ∧ Level.high = a := by simpa [lineHalf] using hs
  rcases h with rfl | rfl <;> decide +kernel

def tripped3 : WatchRec := { activeWatch .tripped with recovery := 2 }

theorem witness_WatchReleaseBegins :
    (watching (activeWatch .tripped)).ready ∧ (activeWatch .tripped).recovery < 2 ∧
    (watching tripped3).watches[3] = some tripped3 ∧ tripped3.recovery = 2 ∧ 0 < tripped3.settle ∧
    (watching { tripped3 with settle := 0 }).watches[3] = some { tripped3 with settle := 0 } ∧ 0 < tripped3.period := by
  refine ⟨?_, ?_, ?_, ?_, ?_, ?_, ?_⟩ <;> decide +kernel

theorem witness_WatchQueryReports :
    (watching watchIn2).ready ∧ (watching watchIn2).watches[3] = some watchIn2 ∧
    State.reset.watches[(0 : Fin 16)] = some WatchRec.linkDefault ∧ ([0x03, 0x03] : List Byte).length ≠ 1 ∧
    15 < (16 : Byte).toNat ∧ State.reset.watches[(15 : Fin 16)] = none := by
  refine ⟨?_, ?_, ?_, ?_, ?_, ?_⟩ <;> decide +kernel

/-- Watch w in the state given with its entry due at elapsed time 5000. -/
def dueWatch (w : Fin 16) (r : WatchRec) : State :=
  at_ 5000 (withEntries [entry (.watch w) 5000 1] (withWatch w r State.reset))

/-- R75, R113: a CHECK_PREP taken before the grace deadline of the same instant finds WARN and is answered TRIPPED, HALF,
recovery 0, as the hand-over then leaves it; so is a half out of step of watch 0 at its retrip deadline. -/
theorem test_checkin_reports_after_both :
    let warn : State := dueWatch 3 { activeWatch .warn with phase := .opened }
    let tripped : State := dueWatch 0 { WatchRec.linkDefault with state := .tripped, recovery := 1 }
    ((after (.checkPrep 7 [0x03]) warn).link.replyQueue.map Frame.payload).getLast? =
      some [0x00, 0x03, 0x04, 0x01, 0x00] ∧
    ((after (.checkPrep 7 [0x03]) warn).watches[3]).map WatchRec.state = some .warn ∧
    ((after .graceDeadlineExpiry (after (.checkPrep 7 [0x03]) warn)).watches[3]).map
      (fun r => (r.state, r.phase, r.recovery)) = some (.tripped, .half, 0) ∧
    ((after (.checkConf 7 [0x00]) tripped).link.replyQueue.map Frame.payload).getLast? =
      some [0x19, 0x00, 0x04, 0x01, 0x00] := by decide +kernel

/-- R184: a renewing RESTART is answered with what the renewal left, RELEASING, though the settle deadline is due now. -/
theorem test_restart_reports_renewal :
    ((after (.restart 7 []) (dueWatch 0 { WatchRec.linkDefault with
      state := .releasing, phase := .half, recovery := 2 })).link.replyQueue.map Frame.payload).getLast? =
      some [0x00, 0x00, 0x05, 0x00, 0x02] := by decide +kernel

theorem witness_RenewalAndSettleDeadlines (st : WatchState) :
    (dueWatch 3 (activeWatch st)).mode = .running ∧
    (dueWatch 3 (activeWatch st)).toDevice.headDue = some (entry (.watch 3) 5000 1) ∧
    (dueWatch 3 (activeWatch st)).watches[3] = some (activeWatch st) := by
  cases st <;> refine ⟨?_, ?_, ?_⟩ <;> decide +kernel

def link0 (st : WatchState) : WatchRec := { WatchRec.linkDefault with state := st, holdSet := 0x81 }

theorem witness_GraceDeadlineTrips :
    (dueWatch 3 (activeWatch .warn)).toDevice.headDue = some (entry (.watch 3) 5000 1) ∧
    (dueWatch 0 (link0 .warn)).toDevice.headDue = some (entry (.watch 0) 5000 1) ∧
    (dueWatch 0 (link0 .warn)).watches[(0 : Fin 16)] = some (link0 .warn) ∧
    (link0 .warn).holdSet.getLsbD (7 : Fin 8) = true := by
  refine ⟨?_, ?_, ?_, ?_⟩ <;> decide +kernel

def retripping (trips : Nat) : State :=
  { dueWatch 0 (link0 .tripped) with linkWatch := { State.reset.linkWatch with consecutive := trips } }

theorem witness_RetripDeadlineRetrips :
    (retripping 1).toDevice.headDue = some (entry (.watch 0) 5000 1) ∧
    (retripping 1).watches[(0 : Fin 16)] = some (link0 .tripped) ∧ (retripping 1).linkWatch.consecutive + 1 < 3 ∧
    (retripping 2).linkWatch.consecutive + 1 = 3 := by
  refine ⟨?_, ?_, ?_, ?_⟩ <;> decide +kernel

theorem witness_RestartBecomesPending :
    (withWatch 0 linkHalf State.reset).ready ∧ linkHalf.source = .link ∧ linkHalf.state ≠ .dormant ∧
    linkHalf.minInterval = 0 ∧ linkHalf.phase = .half ∧ WatchRec.linkDefault.phase = .opened ∧
    (∀ l, linkHalf.lastRenewal = some l → l ≤ (withWatch 0 linkHalf State.reset).elapsed) :=
  ⟨by decide +kernel, rfl, by decide, rfl, rfl, rfl, fun l h => by
    obtain rfl : 0 = l := by simpa [linkHalf, WatchRec.linkDefault] using h
    decide +kernel⟩

/-- Four replies wait, and behind a frame in transmission RESTART and another frame. -/
def restartWaiting : State :=
  { withQueues 0 4 false (withWatch 0 linkHalf State.reset) with link :=
    { (withQueues 0 4 false State.reset).link with receiveQueue := [Request.restart.frame 7 [], oneFrame] } }

theorem witness_RestartBecomesPending_waiting :
    restartWaiting.mode = .running ∧ restartWaiting.link.transmitting = State.reset.link.transmitting ∧
    State.reset.link.transmitting.isSome ∧ restartWaiting.link.replyQueue = oneFrame :: List.replicate 3 oneFrame ∧
    restartWaiting.link.receiveQueue = Request.restart.frame 7 [] :: [oneFrame] ∧
    restartWaiting.link.restartPending = false ∧ restartWaiting.watches[(0 : Fin 16)] = some linkHalf := by
  refine ⟨?_, ?_, ?_, ?_, ?_, ?_, ?_⟩ <;> decide +kernel

theorem witness_LineSetAndConfig :
    7 < (8 : Byte).toNat ∧ 1 < (2 : Byte).toNat ∧ ¬ 1 < (0x01 : Byte).toNat ∧
    State.reset.ready ∧ (0x01 : Byte) = levelCode .high ∧ State.reset.lines[2].binding = none ∧
    (withBinding 2 4 State.reset).lines[2].binding ≠ none ∧
    (withWatch 3 (activeWatch .running) State.reset).watches[3] = some (activeWatch .running) ∧
    (activeWatch .running).holdSet.getLsbD (2 : Fin 8) = true ∧
    (∀ (w : Fin 16) r, State.reset.watches[w] = some r →
      ¬(r.state ≠ .dormant ∧ r.holdSet.getLsbD (2 : Fin 8) = true)) :=
  ⟨by decide, by decide, by decide, by decide +kernel, by decide, by decide +kernel, by decide +kernel,
    by decide +kernel, by decide +kernel, forall_watch (by decide +kernel)⟩

theorem witness_PulsesEnd :
    (at_ 300 (withEntries [entry (.pulse 2) 300 1] State.reset)).toDevice.headDue = some (entry (.pulse 2) 300 1) ∧
    (at_ 300 (withEntries [entry .rstoPulse 300 1] State.reset)).toDevice.headDue = some (entry .rstoPulse 300 1) := by
  refine ⟨?_, ?_⟩ <;> decide +kernel

theorem witness_InputConfigSetsRole :
    State.reset.ready ∧ 15 < (16 : Byte).toNat ∧ (15 : Byte).toNat ≤ 15 ∧ State.reset.timers[4] = none ∧
    (withRole 1 (.count 7) State.reset).inputs[1].role = .count 7 ∧ State.reset.inputs[1].role = .none ∧
    (withTimer 4 timer4 State.reset).timers[4].isSome ∧ (0x01 : Byte) ≠ 0x00 ∧ (0x01 : Byte) ≠ 0x02 ∧
    (7 < (8 : Byte).toNat ∧ 23 < (24 : Byte).toNat ∧ 2 < (3 : Byte).toNat ∧ 1 < (2 : Byte).toNat) := by
  refine ⟨?_, ?_, ?_, ?_, ?_, ?_, ?_, ?_, ?_, ?_⟩ <;> decide +kernel

theorem witness_SampleRunsEveryFilter :
    ({ State.reset with sampleOwed := true } : State).mode = .running ∧ State.reset.link.receiveQueue = [] ∧
    State.reset.sampleOwed = false ∧ State.reset.toDevice.headDue = none ∧ State.reset.elapsed < 281474976710655 := by
  refine ⟨?_, ?_, ?_, ?_, ?_⟩ <;> decide +kernel

/-- IN1, in role TRIGGER for timer 5, has differed for two samples: the third, HIGH, is an edge. -/
def edgeNext : State :=
  let s := withRole 1 (.trigger 5 .rise .start) (withTimer 5 timer5 State.reset)
  { s with inputs := s.inputs.set (1 : Fin 8) { s.inputs[(1 : Fin 8)] with run := 2 }, sampleOwed := true }

theorem witness_SampleRunsEveryFilter_edge :
    edgeNext.mode = .running ∧ edgeNext.link.receiveQueue = [] ∧ edgeNext.sampleOwed = true ∧
    ((0x02 : BitVec 8).getLsbD (1 : Fin 8) = true ∧ edgeNext.inputs[(1 : Fin 8)].filtered = .low ∧
      edgeNext.inputs[(1 : Fin 8)].width + 1 ≤ edgeNext.inputs[(1 : Fin 8)].run + 1) ∧
    (∀ m : Fin 8, m ≠ 1 → (0x02 : BitVec 8).getLsbD m = false ∧ edgeNext.inputs[m].filtered = .low) ∧
    edgeNext.link.transmitting.isSome := by
  refine ⟨?_, ?_, ?_, ?_, ?_, ?_⟩ <;> decide +kernel

/-- R142, R146: that sample starts timer 5. -/
theorem test_edge_starts_timer :
    (after (.inputSample 0x02 []) edgeNext).timers[5].map TimerRec.state = some .running ∧
    (after (.inputSample 0x02 []) edgeNext).inputs[(1 : Fin 8)].edges = 1 := by decide +kernel

theorem witness_EdgesActByRole :
    (withTimer 6 { counter with state := .running } State.reset).timers[6] = some { counter with state := .running } ∧
    2 ≤ counter.remaining ∧ counter.source = .input 1 .rise ∧
    (watching { watchIn2 with state := .running }).watches[3] = some { watchIn2 with state := .running } ∧
    watchIn2.source = .line 2 .high ∧ watchIn2.lastRenewal = none ∧ State.reset.timers[6] = none ∧
    (Level.low ≠ .high ∧ (watching watchIn2).elapsed < 901 + watchIn2.minInterval ∧
      900 + watchIn2.minInterval ≤ (watching watchIn2).elapsed) := by
  refine ⟨?_, ?_, ?_, ?_, ?_, ?_, ?_, ?_, ?_, ?_⟩ <;> decide +kernel

/-- The last count of timer 6; an early confirm of watch 3 on IN2 as its line turns inactive. -/
theorem witness_EdgesActByRole_last :
    ((withTimer 6 { counter with state := .running, remaining := 1 } State.reset).timers[6] =
        some { counter with state := .running, remaining := 1 } ∧ counter.kind = .relative ∧ counter.trigger = none ∧
      ∀ (y : Fin 24) ry, (withTimer 6 { counter with state := .running, remaining := 1 } State.reset).timers[y] =
        some ry → ry.source ≠ .parent 6) ∧
    ((lineHigh .running).watches[3] = some (lineHalf .running) ∧ (lineHalf .running).lastRenewal = some 0 ∧
      (at_ 99 (watching (lineHalf .running))).elapsed < 0 + (lineHalf .running).minInterval ∧
      (at_ 99 (watching (lineHalf .running))).inputs[(2 : Fin 8)].filtered = .low) ∧
    ((withTimer 5 { timer5 with state := .paused } State.reset).timers[5] = some { timer5 with state := .paused } ∧
      (withTimer 7 timer7 State.reset).timers[7] = some timer7 ∧ timer7.kind = .absolute 500) :=
  ⟨⟨by decide +kernel, rfl, rfl, forall_timer (by decide +kernel)⟩, by decide +kernel, by decide +kernel⟩

def acknowledging : State :=
  withNotices [noticeSent 254 true, noticeSent 255 false, noticeSent 0 false, noticeUnsent (.releaseDone 3)] State.reset

theorem witness_NoticesAcknowledgedAndResent :
    (acknowledging.ready ∧
      acknowledging.notices.queue =
        [noticeSent 254 true] ++ noticeSent 255 false :: [noticeSent 0 false, noticeUnsent (.releaseDone 3)] ∧
      (noticeSent 255 false).state = .sent (255 : Byte).toNat false ∧
      ∀ o ∈ [noticeSent 254 true], ∀ m, o.state ≠ .sent (255 : Byte).toNat m) ∧
    (∀ n ∈ acknowledging.notices.queue, ∀ m, n.state ≠ .sent (7 : Byte).toNat m) ∧
    ((at_ 250 State.reset).toDevice.headDue = some (entry .resend 250 2) ∧
      0 < (at_ 250 State.reset).notices.queue.countP Notice.isSent) ∧
    (at_ 250 (withNotices [] State.reset)).notices.queue.countP Notice.isSent = 0 :=
  ⟨⟨by decide +kernel, rfl, rfl, by decide +kernel⟩, by decide +kernel, ⟨by decide +kernel, by decide +kernel⟩,
    by decide +kernel⟩

/-- One SENT notice, unmarked, and one UNSENT behind it. -/
def windowOpen : State := withNotices [noticeSent 0 false, noticeUnsent (.releaseDone 3)] State.reset

def fullQueue : NoticeQueue :=
  { queue := List.replicate 30 (noticeUnsent (.linkLockout 3)) ++
      [noticeUnsent (.releaseDone 3), noticeUnsent (.linkLockout 3)]
    pendingLoss := 5
    nextSeq := 0 }

theorem witness_AppendKeepsCountOfLosses :
    fullQueue.queue.length = 32 ∧ (NoticeBody.releaseDone 3).cls = .routine ∧
    (NoticeBody.watchWarn 3 .early).cls ≠ .routine ∧
    fullQueue.queue = List.replicate 30 (noticeUnsent (.linkLockout 3)) ++
      noticeUnsent (.releaseDone 3) :: [noticeUnsent (.linkLockout 3)] ∧
    (noticeUnsent (.releaseDone 3)).body.cls = .routine ∧
    (∀ n ∈ [noticeUnsent (.linkLockout 3)], n.state = .unsent → n.body.cls ≠ .routine) ∧
    fullQueue.pendingLoss + (fullQueue.queue.map Notice.lostBefore).sum < 65535 ∧
    (∀ n ∈ List.replicate 32 (noticeUnsent (.watchWarn 3 .early)), n.state = .unsent → n.body.cls ≠ .routine) :=
  ⟨rfl, rfl, by decide, rfl, rfl, by decide +kernel, by decide +kernel, by decide +kernel⟩

def tripEntry (g : Nat) : TripEntry := { watch := 15, cause := .retrip, wall := 0, elapsed := 0, generation := g }

def recorded (n : Nat) : State :=
  { State.reset with fault :=
      { entries := List.replicate n (tripEntry 65535), lastCause := .restart, generation := 0 } }

theorem witness_FaultRecordReportedAndKept :
    (recorded 4).ready ∧ ([0x00] : List Byte) ≠ [] ∧ (recorded 4).fault.entries.length ≤ 4 ∧ 0 ≤ (recorded 4).elapsed + (recorded 4).wallOffset ∧
    (recorded 4).elapsed + (recorded 4).wallOffset < 281474976710656 := by
  refine ⟨?_, ?_, ?_, ?_, ?_⟩ <;> decide +kernel

def receiving (got : List Byte) : State :=
  { State.reset with link := { State.reset.link with assembly := .assembling got } }

theorem witness_ReceptionFaultsCounted :
    State.reset.link.assembly = .hunting ∧ (receiving []).link.assembly = .assembling [] ∧
    (57 : Byte).toNat > 56 ∧ (56 : Byte).toNat ≤ 56 ∧
    (receiving [0x00, 0x01, 0x00]).link.assembly = .assembling (0x00 :: [0x01, 0x00]) ∧
    [(0x01 : Byte), 0x00].length + 2 < (0x00 : Byte).toNat + 5 ∧
    [(0x01 : Byte), 0x00, 0x12] = [0x01, 0x00] ++ [0x12] ∧ [(0x01 : Byte), 0x00].length = (0x00 : Byte).toNat + 2 ∧
    crc16 [0x00, 0x01, 0x00] ≠ (0x12 : Byte) ++ (0x34 : Byte) := by
  refine ⟨?_, ?_, ?_, ?_, ?_, ?_, ?_, ?_, ?_⟩ <;> decide +kernel

theorem witness_TransmitCompleteArbitrates :
    (State.reset.link.transmitting.isSome ∧ State.reset.link.receiveQueue = []) ∧
    (withQueues 0 2 false State.reset).link.replyQueue = oneFrame :: [oneFrame] ∧
    (withQueues 0 0 true State.reset).link.restartPending = true ∧
    (acknowledging.notices.queue = [] ++ noticeSent 254 true ::
        [noticeSent 255 false, noticeSent 0 false, noticeUnsent (.releaseDone 3)] ∧
      acknowledging.link.replyQueue = [] ∧ acknowledging.link.restartPending = false) ∧
    ((∀ n ∈ windowOpen.notices.queue, n.isMarked = false) ∧ windowOpen.notices.queue.countP Notice.isSent < 4 ∧
      windowOpen.notices.queue = [noticeSent 0 false] ++ noticeUnsent (.releaseDone 3) :: [] ∧
      ∀ o ∈ [noticeSent 0 false], o.isSent = true) ∧
    ((∀ n ∈ State.reset.notices.queue, n.isMarked = false) ∧ ∀ n ∈ State.reset.notices.queue, n.isSent = true) := by
  refine ⟨⟨?_, ?_⟩, ?_, ?_, ⟨?_, ?_, ?_⟩, ⟨?_, ?_, ?_, ?_⟩, ?_, ?_⟩ <;> decide +kernel

/-- The RESTART reply in transmission, with the restart pending. -/
def restartReplying : State :=
  { State.reset with link := { State.reset.link with
      restartPending := true, transmitting := some { kind := 0x83, tag := 0, payload := [0, 0, 2, 0, 0] } } }

theorem witness_TransmitCompleteArbitrates_waiting :
    (restartWaiting.link.replyQueue = oneFrame :: List.replicate 3 oneFrame ∧
      (List.replicate 3 oneFrame).length = 3 ∧
      (withQueues 2 4 false State.reset).link.receiveQueue = Request.timeGet.frame 1 [] :: [oneFrame] ∧
      Request.timeGet ≠ .restart ∧ (withQueues 2 4 false State.reset).link.transmitting.isSome) ∧
    (restartReplying.mode = .running ∧ restartReplying.link.receiveQueue = [] ∧
      restartReplying.link.replyQueue = [] ∧ restartReplying.link.restartPending = true) := by
  refine ⟨?_, ?_⟩ <;> decide +kernel

/-- R185: the end of the RESTART reply begins the reset, in which no byte is received; its end leaves generation 1. -/
theorem test_restart_reset :
    (after .transmitComplete restartReplying).mode = .held .restart ∧
    after (.noiseByte 0) (after .transmitComplete restartReplying) = after .transmitComplete restartReplying ∧
    (after (.restartReset 0 .low) (after .transmitComplete restartReplying)).fault =
      { entries := [], lastCause := .restart, generation := 1 } := by decide +kernel

theorem witness_ResetsLeaveFreshDevice :
    (restartReplying.mode = .running ∧ restartReplying.link.restartPending = true ∧
      restartReplying.link.replyQueue = [] ∧
      restartReplying.link.transmitting = some { kind := 0x83, tag := 0, payload := [0, 0, 2, 0, 0] }) ∧
    ({ State.reset with mode := .held .restart } : State).mode = .held .restart ∧
    ({ State.reset with mode := .held .powerOn } : State).mode = .held .powerOn := by
  refine ⟨?_, ?_, ?_⟩ <;> decide +kernel

theorem witness_RstNHoldsDevice (cause : ResetCause) :
    State.reset.mode = .running ∧ ({ State.reset with mode := .held cause } : State).mode = .held cause :=
  ⟨by decide +kernel, rfl⟩

/-! ### Witnesses of the invariants' statements: a device 100 ms after its reset, and the step it takes -/

def later : State := at_ 100 State.reset

def laterStep : State := { later with elapsed := 101, sampleOwed := true }

theorem later_steps : (step later : Host.Outcome State Fault Refusal) = .next laterStep := rfl

theorem later_timers : ∀ t : Fin 24, later.timers[t] = none ∧ later.toDevice.entryOf (.timer t) = none := by
  decide +kernel

theorem later_watches : ∀ w : Fin 16, w ≠ 0 → later.watches[w] = none ∧ later.toDevice.entryOf (.watch w) = none := by
  decide +kernel

theorem witness_DeadlineListStaysOrdered :
    later.toDevice.listOrdered ∧ (step later : Host.Outcome State Fault Refusal) = .next laterStep := by
  refine ⟨⟨?_, ?_, ?_⟩, rfl⟩ <;> decide +kernel

theorem witness_PastDueHandOversComplete :
    later.toDevice.settled ∧ (step later : Host.Outcome State Fault Refusal) = .next laterStep :=
  ⟨reset_settled, rfl⟩

theorem witness_NoticeWindowKept :
    later.toDevice.windowKept ∧ (step later : Host.Outcome State Fault Refusal) = .next laterStep := by
  refine ⟨⟨by decide +kernel, by decide +kernel, by decide +kernel, ?_, by decide +kernel⟩, rfl⟩
  intro i n h
  cases i with
  | zero =>
    obtain rfl := Option.some.inj h
    exact ⟨false, rfl⟩
  | succ i => cases h

theorem witness_HoldersFollowWatches :
    later.toDevice.holdersKept ∧ (step later : Host.Outcome State Fault Refusal) = .next laterStep :=
  ⟨by unfold Device.holdersKept; decide +kernel, rfl⟩

theorem later_linkWatch : later.watches[(0 : Fin 16)] = some WatchRec.linkDefault := by decide +kernel

theorem witness_EntriesFollowTimersAndWatches :
    (later.toDevice.timersScheduled ∧ later.toDevice.watchesScheduled ∧ later.toDevice.linkWatchKept) ∧
    (step later : Host.Outcome State Fault Refusal) = .next laterStep := by
  refine ⟨⟨fun t => ?_, fun w => ?_, ?_⟩, rfl⟩
  · obtain ⟨h1, h2⟩ := later_timers t
    refine ⟨?_, fun r _ hr => ?_⟩
    · rw [h2]
      refine ⟨fun h => (by cases h), fun ⟨r, _, hr, _⟩ => ?_⟩
      rw [h1] at hr
      cases hr
    · rw [h1] at hr
      cases hr
  · by_cases hw : w = 0
    · subst hw
      exact ⟨fun _ => ⟨WatchRec.linkDefault, later_linkWatch, .inl rfl⟩, fun _ => by decide +kernel⟩
    · obtain ⟨h1, h2⟩ := later_watches w hw
      rw [h2]
      refine ⟨fun h => (by cases h), fun ⟨r, hr, _⟩ => ?_⟩
      rw [h1] at hr
      cases hr
  · exact ⟨WatchRec.linkDefault, later_linkWatch, by decide, rfl, rfl, rfl, rfl, by decide +kernel, by decide +kernel,
      by decide +kernel, fun _ => by decide +kernel, fun h => by rcases h with h | h <;> cases h⟩

theorem witness_ChainsStayBounded :
    chain.toDevice.chainsBounded ∧ (step chain : Host.Outcome State Fault Refusal) =
      .next { chain with elapsed := 1, sampleOwed := true } :=
  ⟨chain_bounded, rfl⟩

theorem witness_ClaimsStayConsistent :
    (later.toDevice.listOrdered ∧ later.toDevice.settled) ∧
    (later.toDevice.claimsKept ∧ later.toDevice.pulsesKept ∧ later.toDevice.withinCapacity) ∧
    (step later : Host.Outcome State Fault Refusal) = .next laterStep := by
  have hl : ∀ n : Fin 8, later.lines[n].binding = none ∧ later.lines[n].pulseEnd = none := by decide +kernel
  have hi : ∀ n : Fin 8, later.inputs[n].role = .none := by decide +kernel
  refine ⟨⟨⟨by decide +kernel, by decide +kernel, by decide +kernel⟩, reset_settled⟩,
    ⟨⟨fun n t => ?_, fun n t => ?_, fun n w => ?_, fun n t e act h => ?_⟩,
    ⟨by decide +kernel, fun n _ => (hl n).2, fun t r _ _ hr => ?_⟩, by unfold Device.withinCapacity; decide +kernel⟩, rfl⟩
  · rw [(hl n).1]
    refine ⟨fun h => (by cases h), fun ⟨r, _, hr, _⟩ => ?_⟩
    rw [(later_timers t).1] at hr
    cases hr
  · rw [hi n]
    refine ⟨fun h => (by cases h), fun ⟨r, _, hr, _⟩ => ?_⟩
    rw [(later_timers t).1] at hr
    cases hr
  · rw [hi n]
    refine ⟨fun h => (by cases h), fun ⟨r, a, hr, hs⟩ => ?_⟩
    by_cases hw : w = 0
    · subst hw
      rw [later_linkWatch] at hr
      obtain rfl := Option.some.inj hr
      cases hs
    · rw [(later_watches w hw).1] at hr
      cases hr
  · rw [hi n] at h
    cases h
  · rw [(later_timers t).1] at hr
    cases hr

theorem witness_RequestsLeaveElapsedTime :
    (exec (.identify 0 []) State.reset : Host.Outcome State Fault Refusal) = .next (after (.identify 0 []) State.reset) ∧
    State.reset.link.receiveQueue = [] :=
  ⟨rfl, rfl⟩

end Sys2Proof.Tests
end

section
/-! What a step can do, said once as relations between the device before and after: the elementary changes of timers
(`TimerChange`, `TimerWork`), of watches and timers (`Change`), of requests and of the link port (`Act`), of events
(`Move`), and those of time and of the resets (`Progress`). Every invariant is then a case analysis on them. -/

namespace Sys2Proof.Machine

/-! ### The elementary changes -/

/-- An elementary change that a timer makes, none of which makes an entry past due. A timer keeps its definition's output
action and source; a line keeps its binding and, but for a pulse started or cancelled, its pulse end. -/
inductive TimerChange (d : Device) : Device → Prop where
  | record {t : Fin 24} {r r' : TimerRec} (h : d.timers[t] = some r) (ho : r'.output = r.output)
      (hs : r'.source = r.source) : TimerChange d (d.setTimer t (some r'))
  | take (t : Fin 24) : TimerChange d (d.takeOwner (.timer t))
  | schedule (t : Fin 24) (due : Int) : TimerChange d (d.insertEntry (.timer t) due none)
  | unschedule (t : Fin 24) : TimerChange d (d.removeEntry (.timer t))
  | pulse {t : Fin 24} {r : TimerRec} {a : OutputAction} {width : Nat} (h : d.timers[t] = some r)
      (ho : r.output = some a) (he : a.effect = .pulse width) : TimerChange d (d.startPulse a.line width)
  | rest (n : Fin 8) : TimerChange d (d.restLine n)
  | lines (v : Vector LineRec 8)
      (h : ∀ n : Fin 8, v[n].binding = d.lines[n].binding ∧ v[n].pulseEnd = d.lines[n].pulseEnd) :
      TimerChange d { d with lines := v }
  | notify (body : NoticeBody) : TimerChange d (d.notify body)

/-- The work of an expiry: timer changes, and the entries of ABSOLUTE timers, which alone can be past due (R13). -/
inductive TimerWork (d : Device) : Device → Prop where
  | change {d' : Device} (h : TimerChange d d') : TimerWork d d'
  | schedule (t : Fin 24) (due : Int) (wall : Nat) : TimerWork d (d.insertEntry (.timer t) due (some wall))

/-- An elementary change of timers and watches that makes no entry past due. A watch keeps its source. -/
inductive Change (d : Device) : Device → Prop where
  | timer {d' : Device} (h : TimerChange d d') : Change d d'
  | take (o : Owner) (ho : ∀ n, o ≠ .pulse n) : Change d (d.takeOwner o)
  | insert (o : Owner) (due : Int) (ho : ∀ n, o ≠ .pulse n) : Change d (d.insertEntry o due none)
  | remove (o : Owner) (ho : ∀ n, o ≠ .pulse n) : Change d (d.removeEntry o)
  | watch {w : Fin 16} {r r' : WatchRec} (h : d.watches[w] = some r) (hs : r'.source = r.source) :
      Change d (d.setWatch w (some r'))
  | linkWatch (lw : LinkWatch) : Change d { d with linkWatch := lw }
  | fault (f : FaultRecord) (he : d.fault.entries.length ≤ 4 → f.entries.length ≤ 4)
      (hg : f.generation = d.fault.generation) : Change d { d with fault := f }

abbrev TimerChanges : Device → Device → Prop := Relation.ReflTransGen TimerChange

abbrev TimerWorks : Device → Device → Prop := Relation.ReflTransGen TimerWork

abbrev Changes : Device → Device → Prop := Relation.ReflTransGen Change

/-- What requests but TIME_SET, owners and the transmit arbiter do. Past-due hand-overs follow the work that makes them
(R13); the link's two queues do not grow. -/
inductive Act (d : Device) : Device → Prop where
  | change {d' : Device} (h : Change d d') : Act d d'
  | settle {d' : Device} (h : TimerWorks d d') : Act d d'.drainPastDue
  | defineTimer {t : Fin 24} {p : List Byte} {r : TimerRec} (hp : parseTimer t p = some r)
      (hc : d.timerDefineCheck t r = .ok) : Act d (d.defineTimer t r)
  | freeTimer {t : Fin 24} {r : TimerRec} (h : d.timers[t] = some r) (hi : r.state = .idle)
      (hr : d.timerReferenced t = false) : Act d ((d.releaseClaims r).setTimer t none)
  | defineWatch {w : Fin 16} {p : List Byte} {r : WatchRec} (hp : parseWatch p = some r) (hw : w ≠ 0)
      (hl : d.checkinLineTaken w r = false) (ha : d.watchActive w = false) : Act d (d.defineWatch w r)
  | freeWatch {w : Fin 16} {r r' : WatchRec} (h : d.watches[w] = some r') (hs : r'.source = r.source) :
      Act d (d.freeWatch w r)
  | role {n : Fin 8} {role : Role} (width : Nat) (h : d.inputs[n].role.isClaim = false)
      (hr : role.isClaim = false) (ht : d.roleTargetFree role = false) :
      Act d (d.setInput n { d.inputs[n] with role := role, width := width })
  | link (l : LinkPort) (hq : l.receiveQueue.length ≤ d.link.receiveQueue.length)
      (hr : l.replyQueue.length ≤ d.link.replyQueue.length) : Act d { d with link := l }
  | notices (q : NoticeQueue) (h : q.pendingLoss = d.notices.pendingLoss) : Act d { d with notices := q }

abbrev Acts : Device → Device → Prop := Relation.ReflTransGen Act

/-- TIME_SET's change of wall time, with the past-due hand-overs it causes (R4 to R6). -/
def Device.setWall (off : Int) (d : Device) : Device :=
  ({ d with wallOffset := off } : Device).rekeyEntries.drainPastDue

/-- What an event of the running device does while time stands. -/
inductive Move (d : Device) : Device → Prop where
  | act {d' : Device} (h : Act d d') : Move d d'
  | setWall (off : Int) : Move d (d.setWall off)
  | endPulse (n : Fin 8) : Move d ((d.takeOwner (.pulse n)).endPulse n)
  | receive (f : Frame) (h : d.link.receiveQueue.length < 4) :
      Move d { d with link := { d.link with receiveQueue := d.link.receiveQueue ++ [f] } }
  | reply (f : Frame) (h : d.link.replyQueue.length < 4) : Move d (d.queueReply f)
  | sample (n : Fin 8) (level : Level) : Move d (d.setInput n (d.inputs[n].sample level).1)
  | sampled : Move d { d with sampleOwed := false }

abbrev Moves : Device → Device → Prop := Relation.ReflTransGen Move

/-- What a step does, time and resets included (R1, R17). -/
inductive Progress (d : Device) : Device → Prop where
  | move {d' : Device} (h : Move d d') : Progress d d'
  | tick : Progress d d.tick
  | reset (m : Mode) (inputs : Vector InputRec 8) (spd : Level) (f : FaultRecord)
      (hi : ∀ n : Fin 8, inputs[n].role = .none) (he : d.fault.entries.length ≤ 4 → f.entries.length ≤ 4)
      (hg : d.fault.generation < 65536 → f.generation < 65536) :
      Progress d { Device.initial inputs spd f with mode := m }

abbrev Progresses : Device → Device → Prop := Relation.ReflTransGen Progress

theorem TimerChanges.works {d d' : Device} (h : TimerChanges d d') : TimerWorks d d' :=
  Relation.ReflTransGen.mono (fun _ _ => .change) _ _ h

theorem TimerChanges.changes {d d' : Device} (h : TimerChanges d d') : Changes d d' :=
  Relation.ReflTransGen.mono (fun _ _ => .timer) _ _ h

theorem Changes.acts {d d' : Device} (h : Changes d d') : Acts d d' := Relation.ReflTransGen.mono (fun _ _ => .change) _ _ h

theorem Acts.moves {d d' : Device} (h : Acts d d') : Moves d d' := Relation.ReflTransGen.mono (fun _ _ => .act) _ _ h

theorem Moves.progresses {d d' : Device} (h : Moves d d') : Progresses d d' := Relation.ReflTransGen.mono (fun _ _ => .move) _ _ h

/-! ### Reading a table after a write -/

theorem getElem_set_fin {α : Type} {n : Nat} (v : Vector α n) (i j : Fin n) (x : α) :
    (v.set i.val x i.isLt)[j] = if j = i then x else v[j] := by
  simp only [Fin.getElem_fin, Vector.getElem_set, Fin.ext_iff, eq_comm]

/-- A property of every place of a table after a write. -/
theorem forall_getElem_set {α : Type} {n : Nat} {v : Vector α n} {i : Fin n} {x : α} {p : Fin n → α → Prop}
    (hx : p i x) (hv : ∀ j, p j v[j]) (j : Fin n) : p j (v.set i.val x i.isLt)[j] := by
  rw [getElem_set_fin]
  split
  · next h => exact h ▸ hx
  · exact hv j

/-! ### What the changes keep -/

/-- The work of an expiry keeps every timer defined, with its output action and source. -/
theorem TimerWork.timers_kept {d d' : Device} (h : TimerWork d d') {t : Fin 24} {r : TimerRec}
    (ht : d.timers[t] = some r) : ∃ r', d'.timers[t] = some r' ∧ r'.output = r.output ∧ r'.source = r.source := by
  have keep : d'.timers = d.timers → ∃ r', d'.timers[t] = some r' ∧ r'.output = r.output ∧ r'.source = r.source :=
    fun hk => ⟨r, by rw [hk, ht], rfl, rfl⟩
  cases h with
  | schedule u due wall => exact keep rfl
  | change h =>
    cases h with
    | @record u r₀ r₁ h ho hs =>
      by_cases hu : t = u
      · subst hu
        obtain rfl : r₀ = r := Option.some.inj (h.symm.trans ht)
        exact ⟨r₁, by simp, ho, hs⟩
      · exact ⟨r, by rw [Device.setTimer_timers, getElem_set_fin, if_neg hu, ht], rfl, rfl⟩
    | _ => exact keep rfl

theorem TimerWorks.timers_kept {d d' : Device} (h : TimerWorks d d') {t : Fin 24} {r : TimerRec}
    (ht : d.timers[t] = some r) : ∃ r', d'.timers[t] = some r' ∧ r'.output = r.output ∧ r'.source = r.source := by
  induction h with
  | refl => exact ⟨r, ht, rfl, rfl⟩
  | tail _ h ih =>
    obtain ⟨r₁, h₁, ho₁, hs₁⟩ := ih
    obtain ⟨r₂, h₂, ho₂, hs₂⟩ := h.timers_kept h₁
    exact ⟨r₂, h₂, ho₂.trans ho₁, hs₂.trans hs₁⟩

/-- Changes keep every watch defined, with its source. -/
theorem Changes.watches_kept {d d' : Device} (h : Changes d d') {w : Fin 16} {r : WatchRec}
    (hw : d.watches[w] = some r) : ∃ r', d'.watches[w] = some r' ∧ r'.source = r.source := by
  induction h with
  | refl => exact ⟨r, hw, rfl⟩
  | @tail d₁ d₂ _ h ih =>
    obtain ⟨r₁, h₁, hs₁⟩ := ih
    have keep : d₂.watches = d₁.watches → ∃ r', d₂.watches[w] = some r' ∧ r'.source = r.source :=
      fun hk => ⟨r₁, by rw [hk, h₁], hs₁⟩
    cases h with
    | timer h => cases h <;> exact keep rfl
    | @watch u r₀ r₂ h hs =>
      by_cases hu : w = u
      · subst hu
        obtain rfl : r₀ = r₁ := Option.some.inj (h.symm.trans h₁)
        exact ⟨r₂, by simp, hs.trans hs₁⟩
      · exact ⟨r₁, by rw [Device.setWatch_watches, getElem_set_fin, if_neg hu, h₁], hs₁⟩
    | _ => exact keep rfl

/-- What changes of timers and watches leave: the mode, both times, the inputs, the owed sample and the link port. -/
structure Device.SameBase (d d' : Device) : Prop where
  mode : d'.mode = d.mode
  elapsed : d'.elapsed = d.elapsed
  wallOffset : d'.wallOffset = d.wallOffset
  inputs : d'.inputs = d.inputs
  sampleOwed : d'.sampleOwed = d.sampleOwed
  link : d'.link = d.link

theorem Device.SameBase.refl (d : Device) : d.SameBase d := ⟨rfl, rfl, rfl, rfl, rfl, rfl⟩

theorem Device.SameBase.trans {d₁ d₂ d₃ : Device} (h : d₁.SameBase d₂) (h' : d₂.SameBase d₃) : d₁.SameBase d₃ :=
  ⟨h'.mode.trans h.mode, h'.elapsed.trans h.elapsed, h'.wallOffset.trans h.wallOffset, h'.inputs.trans h.inputs,
    h'.sampleOwed.trans h.sampleOwed, h'.link.trans h.link⟩

theorem TimerChange.sameBase {d d' : Device} (h : TimerChange d d') : d.SameBase d' := by
  cases h <;> exact ⟨rfl, rfl, rfl, rfl, rfl, rfl⟩

theorem TimerWork.sameBase {d d' : Device} (h : TimerWork d d') : d.SameBase d' := by
  cases h with
  | change h => exact h.sameBase
  | schedule => exact ⟨rfl, rfl, rfl, rfl, rfl, rfl⟩

theorem Change.sameBase {d d' : Device} (h : Change d d') : d.SameBase d' := by
  cases h with
  | timer h => exact h.sameBase
  | _ => exact ⟨rfl, rfl, rfl, rfl, rfl, rfl⟩

theorem TimerWorks.sameBase {d d' : Device} (h : TimerWorks d d') : d.SameBase d' := by
  induction h with
  | refl => exact .refl _
  | tail _ h ih => exact ih.trans h.sameBase

theorem Changes.sameBase {d d' : Device} (h : Changes d d') : d.SameBase d' := by
  induction h with
  | refl => exact .refl _
  | tail _ h ih => exact ih.trans h.sameBase

end Sys2Proof.Machine
end

section
/-! Every function of the model as a chain of the changes above: expiry, watches, requests, the link port, the step. -/

namespace Sys2Proof.Machine

open Relation (ReflTransGen)

/-! ### Output unit and timers -/

/-- A change of a line's fields other than binding and pulse end. -/
theorem setLine_change (d : Device) (n : Fin 8) (l : LineRec) (hb : l.binding = d.lines[n].binding)
    (hp : l.pulseEnd = d.lines[n].pulseEnd) : TimerChange d (d.setLine n l) :=
  .lines _ (forall_getElem_set (p := fun m (l : LineRec) => l.binding = d.lines[m].binding ∧ l.pulseEnd = d.lines[m].pulseEnd)
    ⟨hb, hp⟩ fun _ => ⟨rfl, rfl⟩)

theorem setShadow_change (d : Device) (n : Fin 8) (sh : Shadow) : TimerChange d (d.setShadow n sh) :=
  setLine_change d n _ rfl rfl

/-- An output effect is a change where the timer whose action it is stands. -/
theorem applyEffect_changes {d : Device} {t : Fin 24} {r : TimerRec} {a : OutputAction} (h : d.timers[t] = some r)
    (ho : r.output = some a) : TimerChanges d (d.applyEffect a.line a.effect) := by
  unfold Device.applyEffect
  split
  · exact .single (setShadow_change d _ _)
  · exact .single (setShadow_change d _ _)
  · split <;> exact .single (setShadow_change d _ _)
  · next he => exact .single (.pulse h ho he)

theorem scheduleStart_works (t : Fin 24) (r : TimerRec) (d : Device) : TimerWorks d (d.scheduleStart t r) := by
  unfold Device.scheduleStart
  split
  · exact .single (.schedule _ _ _)
  · exact .single (.change (.schedule _ _))
  · exact .refl
  · exact .refl

/-- A chain that begins with a new record of a defined timer. -/
theorem works_of_setTimer {t : Fin 24} {r₀ r : TimerRec} {d d' : Device}
    (hd : TimerWorks (d.setTimer t (some r)) d') (h : d.timers[t] = some r₀) (ho : r.output = r₀.output)
    (hs : r.source = r₀.source) : TimerWorks d d' :=
  .head (.change (.record h ho hs)) hd

theorem beginTimer_works {t : Fin 24} {r : TimerRec} {d : Device} (h : d.timers[t] = some r) :
    TimerWorks d (d.beginTimer t r) :=
  works_of_setTimer (scheduleStart_works t r _) h rfl rfl

theorem triggerTimer_works (t : Fin 24) (d : Device) : TimerWorks d (d.triggerTimer t) := by
  unfold Device.triggerTimer
  split
  · exact .refl
  · next h =>
    split
    · exact .refl
    · exact beginTimer_works h
    · exact beginTimer_works h

theorem stopTimer_changes {t : Fin 24} {r : TimerRec} {d : Device} (h : d.timers[t] = some r) :
    TimerChanges d (d.stopTimer t r) := by
  have hstop : TimerChanges d
      ((d.removeEntry (.timer t)).setTimer t (some { r with state := .idle, remaining := r.period })) :=
    .head (.unschedule t) (.single (.record h rfl rfl))
  unfold Device.stopTimer
  dsimp only
  split
  · exact hstop.tail (.rest _)
  · exact hstop

/-! ### Expiry -/

theorem continueTimer_works {t : Fin 24} {r₀ r : TimerRec} (due : Int) {d : Device} (h : d.timers[t] = some r₀)
    (ho : r.output = r₀.output) (hs : r.source = r₀.source) : TimerWorks d (d.continueTimer t r due) := by
  unfold Device.continueTimer Device.finishTimer
  split
  · exact .single (.change (.record h ho hs))
  · split
    · dsimp only
      split
      · exact .single (.change (.record h ho hs))
      · exact works_of_setTimer (.single (.schedule _ _ _)) h ho hs
    · exact works_of_setTimer (.single (.change (.schedule _ _))) h ho hs
    · exact .single (.change (.record h ho hs))
    · exact .single (.change (.record h ho hs))

theorem outputStage_works {d : Device} {t : Fin 24} {r₀ r : TimerRec} (h : d.timers[t] = some r₀)
    (ho : r₀.output = r.output) : TimerWorks d (d.outputStage r) := by
  unfold Device.outputStage
  split
  · next a ha => exact (applyEffect_changes h (ho.trans ha)).works
  · exact .refl

theorem noticeStage_works (t : Fin 24) (r : TimerRec) (late : Bool) (missed : Nat) (d : Device) :
    TimerWorks d (d.noticeStage t r late missed) := by
  unfold Device.noticeStage
  split
  · exact .single (.change (.notify _))
  · exact .refl

theorem triggerStage_works (r : TimerRec) (d : Device) : TimerWorks d (d.triggerStage r) := by
  unfold Device.triggerStage
  split
  · exact triggerTimer_works _ _
  · exact .refl

theorem expiryStages_works {t : Fin 24} {r : TimerRec} (due : Int) (pastDue : Bool) {d : Device}
    (h : d.timers[t] = some r) : TimerWorks d (d.expiryStages t r due pastDue) := by
  have hc : TimerWorks d (d.continueTimer t (r.counted (d.isLate r pastDue)) due) :=
    continueTimer_works due h rfl rfl
  obtain ⟨r₁, h₁, ho₁, -⟩ := hc.timers_kept h
  have ho := outputStage_works (r := r.counted (d.isLate r pastDue)) h₁ ho₁
  exact ((hc.trans ho).trans (noticeStage_works _ _ _ _ _)).trans (triggerStage_works _ _)

/-- A fold of chains is a chain. -/
theorem reflTransGen_foldl {α β : Type} {R : α → α → Prop} {f : α → β → α} (h : ∀ a b, ReflTransGen R a (f a b))
    (l : List β) (a : α) : ReflTransGen R a (l.foldl f a) := by
  induction l generalizing a with
  | nil => exact .refl
  | cons b l ih => exact (h a b).trans (ih _)

theorem takeCount_works {f : Device → Device} (hf : ∀ d, TimerWorks d (f d)) {c : Fin 24} {r : TimerRec} {d : Device}
    (h : d.timers[c] = some r) : TimerWorks d (d.takeCount f c r) := by
  have hr : TimerWork d (d.setTimer c (some { r with remaining := r.remaining - 1 })) := .change (.record h rfl rfl)
  unfold Device.takeCount
  dsimp only
  split
  · exact .head hr (hf _)
  · exact .single hr

theorem offerCount_works {f : Device → Device} (hf : ∀ d, TimerWorks d (f d)) (parent c : Fin 24) (d : Device) :
    TimerWorks d (d.offerCount f parent c) := by
  unfold Device.offerCount
  split
  · exact .refl
  · next h =>
    split
    · exact takeCount_works hf h
    · exact .refl

theorem expire_works (fuel : Nat) (t : Fin 24) (due : Int) (pastDue : Bool) (d : Device) :
    TimerWorks d (expire fuel t due pastDue d) := by
  induction fuel generalizing t due pastDue d with
  | zero => exact .refl
  | succ fuel ih =>
    unfold expire
    split
    · exact .refl
    · next h =>
      exact (expiryStages_works due pastDue h).trans
        (reflTransGen_foldl (fun a c => offerCount_works (fun d => ih c d.elapsed false d) t c a) _ _)

theorem expireTimer_works (t : Fin 24) (due : Int) (pastDue : Bool) (d : Device) :
    TimerWorks d (d.expireTimer t due pastDue) :=
  expire_works 24 t due pastDue d

/-- The past-due hand-overs of timers, one at a time (R13): the first past-due entry is taken and its timer expires. -/
theorem drain_cons {d : Device} {e : Entry} {t : Fin 24} (he : d.deadlines.find? (fun e => e.pastDue) = some e)
    (ho : e.owner = .timer t) (fuel : Nat) :
    drain (fuel + 1) d = drain fuel ((d.takeOwner (.timer t)).expireTimer t e.due true) := by
  rw [drain, he]
  dsimp only
  rw [ho]

/-- All that one round of the past-due hand-overs does: the hand-over of a timer's entry, or nothing. -/
theorem drain_succ_cases (fuel : Nat) (d : Device) :
    (∃ e t, d.deadlines.find? (fun e => e.pastDue) = some e ∧ e.owner = .timer t ∧
      drain (fuel + 1) d = drain fuel ((d.takeOwner (.timer t)).expireTimer t e.due true)) ∨
    drain (fuel + 1) d = d := by
  cases he : d.deadlines.find? (fun e => e.pastDue) with
  | none => exact .inr (by rw [drain, he])
  | some e =>
    cases ho : e.owner with
    | timer t => exact .inl ⟨e, t, rfl, ho, drain_cons he ho fuel⟩
    | _ =>
      refine .inr ?_
      rw [drain, he]
      dsimp only
      rw [ho]

theorem drain_works (fuel : Nat) (d : Device) : TimerWorks d (drain fuel d) := by
  induction fuel generalizing d with
  | zero => exact .refl
  | succ fuel ih =>
    rcases drain_succ_cases fuel d with ⟨e, t, -, -, h⟩ | h
    · rw [h]
      exact .head (.change (.take t)) ((expireTimer_works t e.due true _).trans (ih _))
    · rw [h]

theorem drainPastDue_works (d : Device) : TimerWorks d d.drainPastDue := drain_works 24 d

/-! ### Watches -/

section
variable {w : Fin 16} {r₀ r : WatchRec} {d : Device}

/-- A chain that begins with a new record of a defined watch. -/
theorem changes_of_setWatch {d' : Device} (hd : Changes (d.setWatch w (some r)) d') (h : d.watches[w] = some r₀)
    (hs : r.source = r₀.source) : Changes d d' :=
  .head (.watch h hs) hd

theorem insertWatch_change (w : Fin 16) (due : Int) (d : Device) : Change d (d.insertEntry (.watch w) due none) :=
  .insert _ _ fun _ => nofun

theorem insertRetrip_change (r : WatchRec) (d : Device) : Change d (d.insertRetrip r) := insertWatch_change _ _ _

theorem startRsto_change (d : Device) : Change d d.startRsto := .insert _ _ fun _ => nofun

theorem insertResend_change (d : Device) : Change d d.insertResend := .insert _ _ fun _ => nofun

theorem notify_change (body : NoticeBody) (d : Device) : Change d (d.notify body) := .timer (.notify body)

/-- A trip entry keeps the record within its four entries (R114). -/
theorem length_appendTrip_le {l : List TripEntry} (e : TripEntry) (h : l.length ≤ 4) :
    (appendTrip e l).length ≤ 4 := by
  unfold appendTrip Config.tripCapacity
  split <;> simp <;> omega

theorem recordTrip_change (w : Fin 16) (cause : Cause) (d : Device) : Change d (d.recordTrip w cause) :=
  .fault _ (length_appendTrip_le _) rfl

theorem addHolds_change (w : Fin 16) (set : BitVec 8) (d : Device) : Change d (d.addHolds w set) :=
  .timer (.lines _ fun n => by
    have h := Device.addHolds_line w set d n
    simp only [Device.addHolds] at h
    rw [h]
    split <;> exact ⟨rfl, rfl⟩)

theorem dropHolds_change (w : Fin 16) (set : BitVec 8) (d : Device) : Change d (d.dropHolds w set) :=
  .timer (.lines _ fun n => by
    have h := Device.dropHolds_line w set d n
    simp only [Device.dropHolds] at h
    rw [h]
    split <;> exact ⟨rfl, rfl⟩)

theorem setHostHold_change (held : Bool) (set : BitVec 8) (d : Device) : Change d (d.setHostHold held set) :=
  .timer (.lines _ fun n => by
    have h := Device.setHostHold_line held set d n
    simp only [Device.setHostHold] at h
    rw [h]
    split <;> exact ⟨rfl, rfl⟩)

theorem enterWarn_changes (cause : Cause) (h : d.watches[w] = some r₀) (hs : r.source = r₀.source) :
    Changes d (d.enterWarn w cause r) :=
  changes_of_setWatch (.tail (.single (insertWatch_change _ _ _)) (notify_change _ _)) h hs

theorem tripDeadline_changes (w : Fin 16) (r : WatchRec) (d : Device) : Changes d (d.tripDeadline w r) := by
  unfold Device.tripDeadline
  split
  · exact .head (.linkWatch _) (.single (insertRetrip_change _ _))
  · exact .single (.remove _ fun _ => nofun)

theorem trip_changes (cause : Cause) (h : d.watches[w] = some r₀) (hs : r.source = r₀.source) :
    Changes d (d.trip w cause r) := by
  have hheld : Changes d _ :=
    (ReflTransGen.single (Change.watch (r' := { r with state := .tripped, trips := addStop16 r.trips 1, recovery := 0 })
      h hs)).trans ((tripDeadline_changes w r _).tail (addHolds_change w r.holdSet _))
  have hend : ∀ x, Changes x ((x.notify (.watchTripped w cause)).recordTrip w cause) := fun x =>
    .head (notify_change _ _) (.single (recordTrip_change _ _ _))
  unfold Device.trip
  dsimp only
  split
  · exact (hheld.tail (startRsto_change _)).trans (hend _)
  · exact hheld.trans (hend _)

theorem retrip_changes (h : d.watches[(0 : Fin 16)] = some r) : Changes d (d.retrip r) := by
  have htrip : Changes d _ :=
    .head (Change.watch (r' := { r with trips := addStop16 r.trips 1, recovery := 0 }) h rfl)
      (.head (.linkWatch { d.linkWatch with consecutive := d.linkWatch.consecutive + 1 })
        (.head (startRsto_change _) (.head (notify_change (.watchTripped 0 .retrip) _)
          (.single (recordTrip_change 0 .retrip _)))))
  unfold Device.retrip
  dsimp only
  split
  · exact htrip.tail (insertRetrip_change r _)
  · exact (htrip.tail (.linkWatch _)).tail (notify_change _ _)

theorem abortRelease_changes (cause : Cause) (h : d.watches[w] = some r₀) (hs : r.source = r₀.source) :
    Changes d (d.abortRelease w cause r) := by
  have habort : Changes d _ :=
    .head (Change.watch (r' := { r with state := .tripped, recovery := 0 }) h hs)
      (.single (.remove (.watch w) fun _ => nofun))
  unfold Device.abortRelease
  dsimp only
  split
  · exact (habort.tail (insertRetrip_change r _)).tail (notify_change _ _)
  · exact habort.tail (notify_change _ _)

theorem completeRelease_changes (h : d.watches[w] = some r₀) (hs : r.source = r₀.source) :
    Changes d (d.completeRelease w r) := by
  have hrun : Changes d _ :=
    .head (Change.watch (r' := { r with state := .running, recovery := 0, lastRenewal := some d.elapsed }) h hs)
      (.head (dropHolds_change w r.holdSet _)
        (.single (insertWatch_change w (d.elapsed + r.period) _)))
  unfold Device.completeRelease
  dsimp only
  split
  · exact (hrun.tail (.linkWatch _)).tail (notify_change _ _)
  · exact hrun.tail (notify_change _ _)

theorem renew_changes (h : d.watches[w] = some r₀) (hs : r.source = r₀.source) : Changes d (d.renew w r) := by
  unfold Device.renew
  dsimp only
  split
  · exact .refl
  · exact changes_of_setWatch (.single (insertWatch_change _ _ _)) h hs
  · exact changes_of_setWatch (.tail (.single (insertWatch_change _ _ _)) (notify_change _ _)) h hs
  · split
    · exact changes_of_setWatch (.single (insertRetrip_change _ _)) h hs
    · exact .single (.watch h hs)
  · exact .single (.watch h hs)

theorem earlyCandidate_changes (h : d.watches[w] = some r₀) (hs : r.source = r₀.source) :
    Changes d (d.earlyCandidate w r) := by
  unfold Device.earlyCandidate
  dsimp only
  split
  · exact .refl
  · exact enterWarn_changes _ h hs
  · exact trip_changes _ h hs
  · exact .single (.watch h hs)
  · exact abortRelease_changes _ h hs

theorem outOfStep_changes (h : d.watches[w] = some r₀) (hs : r.source = r₀.source) : Changes d (d.outOfStep w r) := by
  unfold Device.outOfStep
  dsimp only
  split
  · exact .single (.watch h hs)
  · exact .single (.watch h hs)
  · exact .single (.watch h hs)
  · exact .single (.watch h hs)
  · exact abortRelease_changes _ h hs

@[simp] theorem WatchRec.movePhase_source (r : WatchRec) (ph : Phase) : (r.movePhase ph).source = r.source := by
  unfold WatchRec.movePhase
  split
  · next h => exact h.symm ▸ rfl
  · rfl

theorem prepare_changes (h : d.watches[w] = some r) : Changes d (d.prepare w r).1 := by
  unfold Device.prepare
  split
  · exact .single (.watch h (by simp))
  · exact outOfStep_changes h (by simp)

theorem confirm_changes {store : WatchRec → WatchRec} (hstore : ∀ r, (store r).source = r.source)
    (h : d.watches[w] = some r) : Changes d (d.confirm w r store).1 := by
  unfold Device.confirm
  split
  · exact outOfStep_changes h (by simp)
  · split
    · exact earlyCandidate_changes h (by simp)
    · exact renew_changes h (by simp [hstore])

theorem watchEdge_changes (w : Fin 16) (level : Level) (d : Device) : Changes d (d.watchEdge w level) := by
  unfold Device.watchEdge
  split
  · exact .refl
  · next h =>
    split
    · exact .refl
    · split
      · exact .single (.watch h rfl)
      · split
        · exact .single (.watch h rfl)
        · split
          · exact earlyCandidate_changes h rfl
          · exact renew_changes h rfl

theorem watchDeadline_changes (w : Fin 16) (d : Device) : Changes d (d.watchDeadline w) := by
  unfold Device.watchDeadline
  split
  · exact .refl
  · next h =>
    split
    · exact .refl
    · exact enterWarn_changes _ h rfl
    · exact trip_changes _ h rfl
    · split
      · next hw =>
        subst hw
        exact retrip_changes h
      · exact .refl
    · exact completeRelease_changes h rfl

end

end Sys2Proof.Machine
end

section
/-! Requests, the link port, events and the step as chains of changes. -/

namespace Sys2Proof.Machine

open Relation (ReflTransGen)

/-! ### Requests -/

section
variable (p : List Byte) (d : Device)

theorem withTimer_acts {act : Fin 24 → TimerRec → Taken}
    (h : ∀ t r, d.timers[t] = some r → Acts d (act t r).1) : Acts d (withTimer p d act).1 := by
  unfold withTimer
  split
  · exact .refl
  · split
    · exact .refl
    · split
      · exact .refl
      · next hr => exact h _ _ hr

theorem withWatch_acts {act : Fin 16 → WatchRec → Taken}
    (h : ∀ w r, d.watches[w] = some r → Acts d (act w r).1) : Acts d (withWatch p d act).1 := by
  unfold withWatch
  split
  · exact .refl
  · split
    · exact .refl
    · split
      · exact .refl
      · next hr => exact h _ _ hr

theorem withLinkCheckin_acts {act : Fin 16 → WatchRec → Taken}
    (h : ∀ w r, d.watches[w] = some r → Acts d (act w r).1) : Acts d (withLinkCheckin p d act).1 := by
  refine withWatch_acts p d fun w r hr => ?_
  split
  · exact .refl
  · exact .refl
  all_goals exact h w r hr

theorem takeLinkQuery_acts : Acts d (takeLinkQuery p d).1 := by
  unfold takeLinkQuery
  split
  · exact .refl
  · split
    · exact .refl
    · exact .single (.link _ le_rfl le_rfl)
    · exact .refl

theorem takeTimerDefine_acts : Acts d (takeTimerDefine p d).1 := by
  unfold takeTimerDefine
  split
  · exact .refl
  · split
    · exact .refl
    · split
      · exact .refl
      · next hp =>
        split
        · next hc => exact .single (.defineTimer hp hc)
        · exact .refl

theorem takeTimerStart_acts : Acts d (takeTimerStart p d).1 := by
  refine withTimer_acts p d fun t r hr => ?_
  split
  · exact .single (.settle (beginTimer_works hr))
  · exact .refl
  · exact .refl

theorem takeTimerStop_acts : Acts d (takeTimerStop p d).1 := by
  refine withTimer_acts p d fun t r hr => ?_
  dsimp only
  split
  · exact .refl
  · exact (stopTimer_changes hr).changes.acts
  · exact (stopTimer_changes hr).changes.acts

theorem pauseTimer_changes {t : Fin 24} {r : TimerRec} {d : Device} (h : d.timers[t] = some r) :
    TimerChanges d (d.pauseTimer t r) := by
  unfold Device.pauseTimer
  split
  · next sc _ =>
      have hpause : TimerChange d
          (d.setTimer t (some { r with state := .paused, remaining := d.timerUnitsLeft t sc })) := .record h rfl rfl
      exact .head hpause (.single (.unschedule t))
  · exact .single (.record h rfl rfl)
  · exact .single (.record h rfl rfl)

theorem resumeTimer_changes {t : Fin 24} {r : TimerRec} {d : Device} (h : d.timers[t] = some r) :
    TimerChanges d (d.resumeTimer t r) := by
  have hrun : TimerChange d (d.setTimer t (some { r with state := .running })) := .record h rfl rfl
  unfold Device.resumeTimer
  dsimp only
  split
  · exact .head hrun (.single (.schedule _ _))
  · exact .single hrun
  · exact .single hrun

theorem takeTimerPause_acts : Acts d (takeTimerPause p d).1 := by
  refine withTimer_acts p d fun t r hr => ?_
  split
  · exact .refl
  · exact .refl
  · exact .refl
  · exact (pauseTimer_changes hr).changes.acts

theorem takeTimerResume_acts : Acts d (takeTimerResume p d).1 := by
  refine withTimer_acts p d fun t r hr => ?_
  split
  · exact (resumeTimer_changes hr).changes.acts
  · exact .refl
  · exact .refl

theorem takeTimerFree_acts : Acts d (takeTimerFree p d).1 := by
  refine withTimer_acts p d fun t r hr => ?_
  dsimp only
  split
  · exact .refl
  · next href =>
    split
    · next hi => exact .single (.freeTimer hr hi (by simpa using href))
    · exact .refl
    · exact .refl

theorem takeWatchDefine_acts : Acts d (takeWatchDefine p d).1 := by
  unfold takeWatchDefine
  split
  · exact .refl
  · split
    · next hp =>
      split
      · exact .refl
      · next hw =>
        split
        · exact .refl
        · next hl =>
          split
          · exact .refl
          · next ha => exact .single (.defineWatch hp hw (by simpa using hl) (by simpa using ha))
    · exact .refl

theorem takeWatchStart_acts : Acts d (takeWatchStart p d).1 := by
  refine withWatch_acts p d fun w r hr => ?_
  dsimp only
  split
  · refine Changes.acts ?_
    unfold Device.startWatch
    exact changes_of_setWatch (.single (insertWatch_change _ _ _)) hr rfl
  · exact .refl

theorem takeCheckPrep_acts : Acts d (takeCheckPrep p d).1 :=
  withLinkCheckin_acts p d fun _ _ hr => (prepare_changes hr).acts

theorem takeCheckConf_acts : Acts d (takeCheckConf p d).1 :=
  withLinkCheckin_acts p d fun _ _ hr => (confirm_changes (fun _ => rfl) hr).acts

theorem retuneState_acts {st : WatchState} {act : Taken} (h : Acts d act.1) : Acts d (retuneState p d st act).1 := by
  unfold retuneState
  split
  · exact h
  · exact h
  all_goals exact .refl

theorem takeRetuneLink_acts : Acts d (takeRetuneLink p d).1 := by
  unfold takeRetuneLink
  split
  · exact .refl
  · split
    · exact .refl
    · split
      · split
        · exact .refl
        · next code _ _ _ _ hr =>
          refine retuneState_acts p d ?_
          have hc := confirm_changes (store := fun r => { r with
            period := linkPeriod code, grace := linkPeriod code, holdSet := byte (byteAt p 2) }) (fun _ => rfl) hr
          dsimp only [checkinAnswer_fst]
          split
          · exact Changes.acts (hc.tail (.linkWatch _))
          · exact hc.acts
          · exact hc.acts
      · exact .refl

theorem takeWatchRetune_acts : Acts d (takeWatchRetune p d).1 := by
  unfold takeWatchRetune
  split
  · exact .refl
  · split
    · exact takeRetuneLink_acts p d
    · split
      · exact .refl
      · split
        · exact .refl
        · split
          · split
            · exact .refl
            · next hr =>
              split
              · exact .refl
              · refine retuneState_acts p d (Changes.acts ?_)
                exact confirm_changes (fun _ => rfl) hr
          · exact .refl

theorem retireActive_acts {w : Fin 16} {r : WatchRec} {d : Device} (h : d.watches[w] = some r) :
    Acts d (d.retireActive w r).1 := by
  have hc := confirm_changes (store := id) (fun _ => rfl) h
  obtain ⟨r', hr', hs⟩ := hc.watches_kept h
  unfold Device.retireActive
  dsimp only
  split
  · exact hc.acts.tail (.freeWatch hr' hs)
  · exact hc.acts
  · exact hc.acts

theorem takeWatchRetire_acts : Acts d (takeWatchRetire p d).1 := by
  unfold takeWatchRetire
  split
  · exact .refl
  · refine withWatch_acts p d fun w r hr => ?_
    split
    · exact .single (.freeWatch hr rfl)
    · exact retireActive_acts hr
    · exact retireActive_acts hr
    · exact .refl
    · exact .refl

theorem takeRestart_acts : Acts d (takeRestart p d).1 := by
  have hc : Changes d (restartConfirm d).1 := by
    unfold restartConfirm
    split
    · next hr => exact confirm_changes (fun _ => rfl) hr
    · exact .refl
  unfold takeRestart
  split
  · exact .refl
  · dsimp only
    split
    · exact hc.acts.tail (.link _ (Nat.zero_le _) le_rfl)
    · exact hc.acts
    · exact hc.acts

theorem takeWatchRelease_acts : Acts d (takeWatchRelease p d).1 := by
  refine withWatch_acts p d fun w r hr => ?_
  dsimp only
  split
  · exact .refl
  · split
    · exact .refl
    · refine Changes.acts ?_
      unfold Device.releaseWatch
      dsimp only
      split
      · refine changes_of_setWatch (completeRelease_changes (r₀ := { r with state := .releasing }) ?_ rfl) hr rfl
        simp
      · exact changes_of_setWatch (.single (insertWatch_change _ _ _)) hr rfl

theorem takeLineSet_acts : Acts d (takeLineSet p d).1 := by
  unfold takeLineSet
  split
  · exact .refl
  · split
    · split
      · exact .refl
      · exact .single (.change (.timer (setShadow_change d _ _)))
    · exact .refl

theorem takeLineConfig_acts : Acts d (takeLineConfig p d).1 := by
  unfold takeLineConfig
  split
  · exact .refl
  · split
    · split
      · exact .refl
      · split
        · exact .refl
        · split
          · exact .refl
          · exact .single (.change (.timer (setLine_change d _ _ rfl rfl)))
    · exact .refl

theorem takeLineHold_acts : Acts d (takeLineHold p d).1 := by
  unfold takeLineHold
  split
  · exact .refl
  · exact .single (.change (setHostHold_change true _ d))

theorem takeLineUnhold_acts : Acts d (takeLineUnhold p d).1 := by
  unfold takeLineUnhold
  split
  · exact .refl
  · exact .single (.change (setHostHold_change false _ d))

/-- The role an INPUT_CONFIG gives is no claim (R143, R147). -/
theorem isClaim_of_parseRole {role : Role} (h : parseRole p = some role) : role.isClaim = false := by
  unfold parseRole at h
  split at h
  · cases h
    rfl
  · split at h
    · cases h
      rfl
    · cases h
  · cases h

theorem takeInputConfig_acts : Acts d (takeInputConfig p d).1 := by
  unfold takeInputConfig
  split
  · exact .refl
  · split
    · next hp =>
      split
      · exact .refl
      · split
        · exact .refl
        · next ht =>
          split
          · exact .refl
          · next hc => exact .single (.role _ (by simpa using hc) (isClaim_of_parseRole p hp) (by simpa using ht))
    · exact .refl

theorem takeNoticeAck_acts : Acts d (takeNoticeAck p d).1 := by
  unfold takeNoticeAck
  split
  · exact .refl
  · split
    · exact .refl
    · next rest _ =>
      have hq : Act d { d with notices := { d.notices with queue := rest } } := .notices _ rfl
      dsimp only
      split
      · exact .head hq (.single (.change (insertResend_change _)))
      · exact .head hq (.single (.change (.remove .resend fun _ => nofun)))

theorem takeFaultClear_acts : Acts d (takeFaultClear p d).1 := by
  unfold takeFaultClear
  split
  · exact .refl
  · exact .single (.change (.fault _ (fun _ => Nat.zero_le _) rfl))

/-- All that a TIME_SET can do: a refusal leaves the device, an accepted one sets wall time (R4). -/
theorem takeTimeSet_cases : (takeTimeSet p d).1 = d ∨ ∃ off, (takeTimeSet p d).1 = d.setWall off := by
  unfold takeTimeSet
  split
  · exact .inl rfl
  · split
    · exact .inl rfl
    · exact .inr ⟨_, rfl⟩

theorem withTimer_query {act : Fin 24 → TimerRec → Taken} (h : ∀ t r, (act t r).1 = d) :
    Acts d (withTimer p d act).1 :=
  withTimer_acts p d fun t r _ => by rw [h]

theorem withWatch_query {act : Fin 16 → WatchRec → Taken} (h : ∀ t r, (act t r).1 = d) :
    Acts d (withWatch p d act).1 :=
  withWatch_acts p d fun t r _ => by rw [h]

/-- A request whose branches all give the device back. -/
theorem acts_of_fst_eq {d : Device} {x : Taken} (h : x.1 = d) : Acts d x.1 := by rw [h]

theorem takeIdentify_fst : (takeIdentify p d).1 = d := by
  unfold takeIdentify
  split <;> rfl

theorem takeTimeGet_fst : (takeTimeGet p d).1 = d := by
  unfold takeTimeGet
  split <;> rfl

theorem takeScheduleQuery_fst : (takeScheduleQuery p d).1 = d := by
  unfold takeScheduleQuery
  split <;> rfl

theorem takeFaultQuery_fst : (takeFaultQuery p d).1 = d := by
  unfold takeFaultQuery
  split <;> rfl

theorem takeLineQuery_fst : (takeLineQuery p d).1 = d := by
  unfold takeLineQuery
  split
  · rfl
  · split <;> rfl

theorem takeInputQuery_fst : (takeInputQuery p d).1 = d := by
  unfold takeInputQuery
  split
  · rfl
  · split <;> rfl

/-- What taking a request does, TIME_SET apart. -/
theorem takeRequest_acts {r : Request} (h : r ≠ .timeSet) : Acts d (takeRequest r p d).1 := by
  cases r with
  | timeSet => exact absurd rfl h
  | identify => exact acts_of_fst_eq (takeIdentify_fst p d)
  | timeGet => exact acts_of_fst_eq (takeTimeGet_fst p d)
  | scheduleQuery => exact acts_of_fst_eq (takeScheduleQuery_fst p d)
  | faultQuery => exact acts_of_fst_eq (takeFaultQuery_fst p d)
  | lineQuery => exact acts_of_fst_eq (takeLineQuery_fst p d)
  | inputQuery => exact acts_of_fst_eq (takeInputQuery_fst p d)
  | timerQuery => exact withTimer_query p d fun _ _ => rfl
  | watchQuery => exact withWatch_query p d fun _ _ => rfl
  | linkQuery => exact takeLinkQuery_acts p d
  | restart => exact takeRestart_acts p d
  | timerDefine => exact takeTimerDefine_acts p d
  | timerStart => exact takeTimerStart_acts p d
  | timerStop => exact takeTimerStop_acts p d
  | timerPause => exact takeTimerPause_acts p d
  | timerResume => exact takeTimerResume_acts p d
  | timerFree => exact takeTimerFree_acts p d
  | watchDefine => exact takeWatchDefine_acts p d
  | watchStart => exact takeWatchStart_acts p d
  | checkPrep => exact takeCheckPrep_acts p d
  | checkConf => exact takeCheckConf_acts p d
  | watchRetune => exact takeWatchRetune_acts p d
  | watchRetire => exact takeWatchRetire_acts p d
  | watchRelease => exact takeWatchRelease_acts p d
  | lineConfig => exact takeLineConfig_acts p d
  | lineSet => exact takeLineSet_acts p d
  | lineHold => exact takeLineHold_acts p d
  | lineUnhold => exact takeLineUnhold_acts p d
  | inputConfig => exact takeInputConfig_acts p d
  | noticeAck => exact takeNoticeAck_acts p d
  | faultClear => exact takeFaultClear_acts p d

end

/-! ### What requests and the link port leave -/

/-- What acts and the setting of wall time leave: the mode, elapsed time, and queues of the link port no longer than
before. -/
structure Device.SameTime (d d' : Device) : Prop where
  mode : d'.mode = d.mode
  elapsed : d'.elapsed = d.elapsed
  receive : d'.link.receiveQueue.length ≤ d.link.receiveQueue.length
  reply : d'.link.replyQueue.length ≤ d.link.replyQueue.length

theorem Device.SameTime.refl (d : Device) : d.SameTime d := ⟨rfl, rfl, le_rfl, le_rfl⟩

theorem Device.SameTime.trans {d₁ d₂ d₃ : Device} (h : d₁.SameTime d₂) (h' : d₂.SameTime d₃) : d₁.SameTime d₃ :=
  ⟨h'.mode.trans h.mode, h'.elapsed.trans h.elapsed, h'.receive.trans h.receive, h'.reply.trans h.reply⟩

theorem Device.SameBase.sameTime {d d' : Device} (h : d.SameBase d') : d.SameTime d' :=
  ⟨h.mode, h.elapsed, by rw [h.link], by rw [h.link]⟩

/-- A definition's claims touch the lines, the list and the roles alone. -/
structure Device.ClaimsOnly (d d' : Device) : Prop where
  mode : d'.mode = d.mode
  elapsed : d'.elapsed = d.elapsed
  wallOffset : d'.wallOffset = d.wallOffset
  handed : d'.handed = d.handed
  timers : d'.timers = d.timers
  watches : d'.watches = d.watches
  sampleOwed : d'.sampleOwed = d.sampleOwed
  notices : d'.notices = d.notices
  link : d'.link = d.link
  fault : d'.fault = d.fault

theorem releaseClaims_claimsOnly (r : TimerRec) (d : Device) : d.ClaimsOnly (d.releaseClaims r) := by
  unfold Device.releaseClaims
  cases r.output <;> cases r.source <;> exact ⟨rfl, rfl, rfl, rfl, rfl, rfl, rfl, rfl, rfl, rfl⟩

theorem takeClaims_claimsOnly (t : Fin 24) (r : TimerRec) (d : Device) : d.ClaimsOnly (d.takeClaims t r) := by
  unfold Device.takeClaims
  cases r.output <;> cases r.source <;> exact ⟨rfl, rfl, rfl, rfl, rfl, rfl, rfl, rfl, rfl, rfl⟩

theorem releaseCheckin_claimsOnly (r : WatchRec) (d : Device) : d.ClaimsOnly (d.releaseCheckin r) := by
  unfold Device.releaseCheckin
  cases r.source <;> exact ⟨rfl, rfl, rfl, rfl, rfl, rfl, rfl, rfl, rfl, rfl⟩

theorem takeCheckin_claimsOnly (w : Fin 16) (r : WatchRec) (d : Device) : d.ClaimsOnly (d.takeCheckin w r) := by
  unfold Device.takeCheckin
  cases r.source <;> exact ⟨rfl, rfl, rfl, rfl, rfl, rfl, rfl, rfl, rfl, rfl⟩

theorem Device.ClaimsOnly.sameTime {d d' : Device} (h : d.ClaimsOnly d') : d.SameTime d' :=
  ⟨h.mode, h.elapsed, by rw [h.link], by rw [h.link]⟩

/-- The claims that a redefinition of a timer gives up first (R29). -/
def Device.forgetTimer (t : Fin 24) (d : Device) : Device :=
  match d.timers[t] with
  | some old => d.releaseClaims old
  | none => d

/-- The claim that a redefinition of a watch gives up first (R69). -/
def Device.forgetWatch (w : Fin 16) (d : Device) : Device :=
  match d.watches[w] with
  | some old => d.releaseCheckin old
  | none => d

theorem Device.defineTimer_eq (t : Fin 24) (r : TimerRec) (d : Device) :
    d.defineTimer t r = ((d.forgetTimer t).setTimer t (some r)).takeClaims t r := rfl

theorem Device.defineWatch_eq (w : Fin 16) (r : WatchRec) (d : Device) :
    d.defineWatch w r = ((d.forgetWatch w).setWatch w
      (some { r with phase := (d.forgetWatch w).sourcePhase r.source })).takeCheckin w r := rfl

theorem forgetTimer_claimsOnly (t : Fin 24) (d : Device) : d.ClaimsOnly (d.forgetTimer t) := by
  unfold Device.forgetTimer
  split
  · exact releaseClaims_claimsOnly _ d
  · exact ⟨rfl, rfl, rfl, rfl, rfl, rfl, rfl, rfl, rfl, rfl⟩

theorem forgetWatch_claimsOnly (w : Fin 16) (d : Device) : d.ClaimsOnly (d.forgetWatch w) := by
  unfold Device.forgetWatch
  split
  · exact releaseCheckin_claimsOnly _ d
  · exact ⟨rfl, rfl, rfl, rfl, rfl, rfl, rfl, rfl, rfl, rfl⟩

theorem Act.sameTime_wallOffset {d d' : Device} (h : Act d d') : d.SameTime d' ∧ d'.wallOffset = d.wallOffset := by
  cases h with
  | change h => exact ⟨h.sameBase.sameTime, h.sameBase.wallOffset⟩
  | settle h =>
    have hb := h.sameBase.trans (drainPastDue_works _).sameBase
    exact ⟨hb.sameTime, hb.wallOffset⟩
  | @defineTimer t _ r =>
    have hf := forgetTimer_claimsOnly t d
    have ht := takeClaims_claimsOnly t r ((d.forgetTimer t).setTimer t (some r))
    have hs : (d.forgetTimer t).SameTime ((d.forgetTimer t).setTimer t (some r)) := ⟨rfl, rfl, le_rfl, le_rfl⟩
    exact ⟨hf.sameTime.trans (hs.trans ht.sameTime), ht.wallOffset.trans hf.wallOffset⟩
  | @freeTimer t r =>
    have hf := releaseClaims_claimsOnly r d
    exact ⟨hf.sameTime.trans ⟨rfl, rfl, le_rfl, le_rfl⟩, hf.wallOffset⟩
  | @defineWatch w _ r =>
    have hf := forgetWatch_claimsOnly w d
    have hs : (d.forgetWatch w).SameTime ((d.forgetWatch w).setWatch w
      (some { r with phase := (d.forgetWatch w).sourcePhase r.source })) := ⟨rfl, rfl, le_rfl, le_rfl⟩
    have ht := takeCheckin_claimsOnly w r ((d.forgetWatch w).setWatch w
      (some { r with phase := (d.forgetWatch w).sourcePhase r.source }))
    exact ⟨hf.sameTime.trans (hs.trans ht.sameTime), ht.wallOffset.trans hf.wallOffset⟩
  | @freeWatch w r =>
    have hf := releaseCheckin_claimsOnly r (d.removeEntry (.watch w))
    have hs : d.SameTime (d.removeEntry (.watch w)) := ⟨rfl, rfl, le_rfl, le_rfl⟩
    exact ⟨hs.trans (hf.sameTime.trans ⟨rfl, rfl, le_rfl, le_rfl⟩), hf.wallOffset⟩
  | role => exact ⟨⟨rfl, rfl, le_rfl, le_rfl⟩, rfl⟩
  | link l hq hr => exact ⟨⟨rfl, rfl, hq, hr⟩, rfl⟩
  | notices => exact ⟨⟨rfl, rfl, le_rfl, le_rfl⟩, rfl⟩

theorem Acts.sameTime {d d' : Device} (h : Acts d d') : d.SameTime d' := by
  induction h with
  | refl => exact .refl _
  | tail _ h ih => exact ih.trans h.sameTime_wallOffset.1

/-- No act changes the wall offset (R4). -/
theorem Acts.wallOffset {d d' : Device} (h : Acts d d') : d'.wallOffset = d.wallOffset := by
  induction h with
  | refl => rfl
  | tail _ h ih => exact h.sameTime_wallOffset.2.trans ih

/-- A fold of insertions leaves what one leaves. -/
theorem foldl_insertEntry_sameBase (l : List Entry) (d : Device) :
    d.SameBase (l.foldl (fun acc e => acc.insertEntry e.owner e.due e.wall) d) := by
  induction l generalizing d with
  | nil => exact .refl d
  | cons e l ih =>
    have hs : d.SameBase (d.insertEntry e.owner e.due e.wall) := ⟨rfl, rfl, rfl, rfl, rfl, rfl⟩
    exact hs.trans (ih _)

theorem rekeyEntries_sameBase (d : Device) : d.SameBase d.rekeyEntries := by
  have h := foldl_insertEntry_sameBase
    ((d.deadlines.map (Entry.rekey d.wallOffset d.elapsed)).filter d.delayedEntry)
    { d with deadlines := sortEntries ((d.deadlines.map (Entry.rekey d.wallOffset d.elapsed)).filter
        fun e => !d.delayedEntry e) }
  exact ⟨h.mode, h.elapsed, h.wallOffset, h.inputs, h.sampleOwed, h.link⟩

theorem setWall_sameTime (off : Int) (d : Device) : d.SameTime (d.setWall off) := by
  have h := ((rekeyEntries_sameBase { d with wallOffset := off }).trans (drainPastDue_works _).sameBase).sameTime
  exact ⟨h.mode, h.elapsed, h.receive, h.reply⟩

/-! ### The link port -/

theorem sendNotice_acts (d : Device) : Acts d d.sendNotice := by
  unfold Device.sendNotice
  split
  · next q _ =>
    have hq : Act d { d with notices := { d.notices with queue := q } } := .notices _ rfl
    exact .head hq (.single (.link _ le_rfl le_rfl))
  · split
    · split
      · exact .refl
      · next q _ =>
        have hq : Act d { d with notices :=
          { d.notices with queue := q, nextSeq := (d.notices.nextSeq + 1) % 256 } } := .notices _ rfl
        dsimp only
        split
        · exact .head hq (.single (.link _ le_rfl le_rfl))
        · exact .head hq (.head (.change (insertResend_change _)) (.single (.link _ le_rfl le_rfl)))
    · exact .refl

theorem arbitrate_acts (d : Device) : Acts d d.arbitrate := by
  unfold Device.arbitrate
  split
  · exact .refl
  · split
    · next r rest h =>
      exact .single (.link { d.link with replyQueue := rest, transmitting := some r } le_rfl
        (by rw [h]; exact Nat.le_succ _))
    · split
      · exact .refl
      · exact sendNotice_acts d

/-- What taking a frame does to the device (R177, R178): acts, or TIME_SET's. -/
theorem answer_cases (f : Frame) (d : Device) : Acts d (answer f d).1 ∨ ∃ off, (answer f d).1 = d.setWall off := by
  unfold answer
  split
  · next r _ =>
    by_cases hr : r = .timeSet
    · subst hr
      rcases takeTimeSet_cases f.payload d with h | h
      · exact .inl (acts_of_fst_eq h)
      · exact .inr h
    · exact .inl (takeRequest_acts f.payload d hr)
  · exact .inl (.single (.link _ le_rfl le_rfl))

theorem answer_moves (f : Frame) (d : Device) : Moves d (answer f d).1 := by
  rcases answer_cases f d with h | ⟨off, h⟩
  · exact h.moves
  · rw [h]
    exact .single (.setWall off)

theorem answer_sameTime (f : Frame) (d : Device) : d.SameTime (answer f d).1 := by
  rcases answer_cases f d with h | ⟨off, h⟩
  · exact h.sameTime
  · rw [h]
    exact setWall_sameTime off d

theorem takeFrame_moves (f : Frame) {d : Device} (h : d.link.replyQueue.length < 4) : Moves d (d.takeFrame f) :=
  (answer_moves f d).tail (.reply _ (lt_of_le_of_lt (answer_sameTime f d).reply h))

/-- All that one round of the dispatcher does: one frame, or nothing (R176). -/
theorem dispatchFrames_succ_cases (fuel : Nat) (d : Device) :
    (∃ f rest, d.link.receiveQueue = f :: rest ∧ d.link.replyQueue.length < 4 ∧ d.link.restartPending = false ∧
      dispatchFrames (fuel + 1) d = dispatchFrames fuel
        ((({ d with link := { d.link with receiveQueue := rest } } : Device).takeFrame f).arbitrate)) ∨
    dispatchFrames (fuel + 1) d = d := by
  cases hq : d.link.receiveQueue with
  | nil => exact .inr (by rw [dispatchFrames, hq])
  | cons f rest =>
    by_cases hc : d.link.replyQueue.length < 4 ∧ d.link.restartPending = false
    · exact .inl ⟨f, rest, rfl, hc.1, hc.2, dispatchFrames_cons hq hc.1 hc.2 fuel⟩
    · refine .inr ?_
      rw [dispatchFrames, hq]
      exact if_neg hc

theorem dispatchFrames_moves (fuel : Nat) (d : Device) : Moves d (dispatchFrames fuel d) := by
  induction fuel generalizing d with
  | zero => exact .refl
  | succ fuel ih =>
    rcases dispatchFrames_succ_cases fuel d with ⟨f, rest, hq, hr, -, h⟩ | h
    · have hlink : Act d { d with link := { d.link with receiveQueue := rest } } :=
        .link _ (by rw [hq]; exact Nat.le_succ _) le_rfl
      rw [h]
      refine .head (.act hlink) (.trans ?_ ((arbitrate_acts _).moves.trans (ih _)))
      exact takeFrame_moves f hr
    · rw [h]

theorem dispatch_moves (d : Device) : Moves d d.dispatch := dispatchFrames_moves _ d

theorem pump_moves (d : Device) : Moves d d.pump := (arbitrate_acts d).moves.trans (dispatch_moves _)

theorem deliverFrame_moves (f : Frame) (d : Device) : Moves d (d.deliverFrame f) := by
  unfold Device.deliverFrame
  split
  · exact .refl
  · split
    · next h => exact .head (.receive f h) (dispatch_moves _)
    · exact .single (.act (.link _ le_rfl le_rfl))

theorem setAssembly_move (a : Assembly) (d : Device) : Move d (d.setAssembly a) := .act (.link _ le_rfl le_rfl)

theorem setCounters_move (c : LinkCounters) (d : Device) : Move d (d.setCounters c) := .act (.link _ le_rfl le_rfl)

theorem completeFrame_moves (got : List Byte) (d : Device) : Moves d (d.completeFrame got) := by
  unfold Device.completeFrame
  dsimp only
  split
  · exact .head (setAssembly_move _ d) (deliverFrame_moves _ _)
  · exact .head (setAssembly_move _ d) (.single (setCounters_move _ _))

theorem receiveByte_moves (b : Byte) (d : Device) : Moves d (d.receiveByte b) := by
  unfold Device.receiveByte
  split
  · split
    · exact .single (setAssembly_move _ d)
    · exact .single (setCounters_move _ d)
  · split
    · exact .head (setAssembly_move _ d) (.single (setCounters_move _ _))
    · exact .single (setAssembly_move _ d)
  · dsimp only
    split
    · exact completeFrame_moves _ d
    · exact .single (setAssembly_move _ d)

theorem gapTimeout_moves (d : Device) : Moves d d.gapTimeout := by
  unfold Device.gapTimeout
  split
  · exact .refl
  · exact .head (setAssembly_move _ d) (.single (setCounters_move _ _))

/-! ### Hand-overs and samples -/

theorem resendDeadline_acts (d : Device) : Acts d d.resendDeadline := by
  have hq : Act d { d with notices := { d.notices with queue := d.notices.queue.map Notice.marked } } :=
    .notices _ rfl
  unfold Device.resendDeadline
  split
  · exact .head hq (.single (.change (insertResend_change _)))
  · exact .refl

/-- The engine's hand-over of an entry, with its owner's work (R11). -/
theorem ownerWork_moves (e : Entry) (d : Device) : Moves d ((d.takeOwner e.owner).ownerWork e) := by
  unfold Device.ownerWork
  cases e.owner with
  | timer t => exact .single (.act (.settle (.head (.change (.take t)) (expireTimer_works t e.due false _))))
  | watch w => exact (Changes.acts (.head (.take (.watch w) fun _ => nofun) (watchDeadline_changes w _))).moves
  | pulse n => exact .single (.endPulse n)
  | rstoPulse => exact .single (.act (.change (.take .rstoPulse fun _ => nofun)))
  | resend => exact (Acts.moves (.head (.change (.take .resend fun _ => nofun)) (resendDeadline_acts _)))

theorem handOver_moves (e : Entry) (d : Device) : Moves d (d.handOver e) :=
  (ownerWork_moves e d).trans (pump_moves _)

theorem finishInstant_moves (fuel : Nat) (d : Device) : Moves d (finishInstant fuel d) := by
  induction fuel generalizing d with
  | zero => exact .refl
  | succ fuel ih =>
    unfold finishInstant
    split
    · exact (handOver_moves _ d).trans (ih _)
    · exact .refl

theorem expiryOf_moves (want : Entry → Bool) (d : Device) : Moves d (d.expiryOf want) := by
  unfold Device.expiryOf
  split
  · split
    · exact handOver_moves _ d
    · exact .refl
  · exact .refl

theorem countEdge_works (t : Fin 24) (level : Level) (d : Device) : TimerWorks d (d.countEdge t level) := by
  unfold Device.countEdge
  split
  · exact .refl
  · next h =>
    split
    · split
      · exact takeCount_works (fun d => expireTimer_works t d.elapsed false d) h
      · exact .refl
    all_goals exact .refl

theorem stopEdge_changes (t : Fin 24) (d : Device) : TimerChanges d (d.stopEdge t) := by
  unfold Device.stopEdge
  split
  · exact .refl
  · next h =>
    split
    · exact .refl
    · exact stopTimer_changes h
    · exact stopTimer_changes h

/-- All that an edge's delivery does (R142): changes of a watch, or the work of a timer. -/
theorem deliverEdge_cases (role : Role) (level : Level) (d : Device) :
    Changes d (d.deliverEdge role level) ∨ TimerWorks d (d.deliverEdge role level) := by
  unfold Device.deliverEdge
  split
  · exact .inl .refl
  · exact .inl (watchEdge_changes _ _ _)
  · exact .inr (countEdge_works _ _ _)
  · split
    · exact .inr (triggerTimer_works _ _)
    · exact .inr .refl
  · split
    · exact .inr (stopEdge_changes _ _).works
    · exact .inr .refl

theorem deliverEdge_sameBase (role : Role) (level : Level) (d : Device) : d.SameBase (d.deliverEdge role level) := by
  rcases deliverEdge_cases role level d with h | h
  · exact h.sameBase
  · exact h.sameBase

/-- An edge's delivery with the past-due hand-overs it causes (R13, R142). -/
theorem deliverEdge_acts (role : Role) (level : Level) (d : Device) :
    Acts d (d.deliverEdge role level).drainPastDue := by
  rcases deliverEdge_cases role level d with h | h
  · exact h.acts.tail (.settle .refl)
  · exact .single (.settle h)

theorem sampleLine_moves (n : Fin 8) (level : Level) (d : Device) : Moves d (d.sampleLine n level) := by
  unfold Device.sampleLine
  dsimp only
  split
  · exact .head (.sample n level) (deliverEdge_acts _ _ _).moves
  · exact .single (.sample n level)

theorem sampleAll_moves (levels : BitVec 8) (order : List (Fin 8)) (d : Device) :
    Moves d (d.sampleAll levels order) :=
  .head .sampled (reflTransGen_foldl (fun d _ => (sampleLine_moves _ _ d).trans (pump_moves _)) _ _)

theorem inputSample_progresses (levels : BitVec 8) (order : List (Fin 8)) (d : Device) :
    Progresses d (d.inputSample levels order) := by
  unfold Device.inputSample
  split
  · exact (sampleAll_moves _ _ _).progresses
  · exact ((finishInstant_moves _ d).progresses.tail .tick).trans (sampleAll_moves _ _ _).progresses

/-! ### Resets and the step -/

/-- No fault record after a reset holds more entries, and its generation is a 16-bit value (R115). -/
theorem afterReset_fits (f : FaultRecord) (cause : ResetCause) :
    (f.entries.length ≤ 4 → (f.afterReset cause).entries.length ≤ 4) ∧ (f.afterReset cause).generation < 65536 := by
  have hw : incWrap16 f.generation < 65536 := Nat.mod_lt _ (by decide)
  cases cause with
  | powerOn => exact ⟨fun _ => Nat.zero_le _, Nat.zero_lt_succ _⟩
  | pin => exact ⟨id, hw⟩
  | restart => exact ⟨id, hw⟩

theorem endReset_progresses (cause : ResetCause) (pins : BitVec 8) (spd : Level) (d : Device) :
    Progresses d (d.endReset cause pins spd) := by
  obtain ⟨he, hg⟩ := afterReset_fits d.fault cause
  have hi : ∀ n : Fin 8, (firstSamples pins)[n].role = .none := fun n => by
    simp [firstSamples, InputRec.default]
  have hreset : Progress d (Device.initial (firstSamples pins) spd (d.fault.afterReset cause)) :=
    .reset .running _ spd _ hi he fun _ => hg
  exact .head hreset (.head (.move (.act (.change (notify_change _ _)))) (pump_moves _).progresses)

theorem heldReset_role (d : Device) (n : Fin 8) : (d.inputs.map InputRec.heldReset)[n].role = .none := by
  simp [InputRec.heldReset]

theorem holdReset_progress (cause : ResetCause) (d : Device) : Progress d (d.holdReset cause) :=
  .reset (.held cause) _ _ _ (heldReset_role d) id id

theorem frameSent_progresses (d : Device) : Progresses d d.frameSent := by
  rcases Device.frameSent_cases (d := d) rfl with ⟨-, h⟩ | ⟨-, -, h⟩ | ⟨-, h⟩
  · rw [h]
    exact .single (holdReset_progress _ d)
  · have hfree : Act d { d with link := { d.link with transmitting := none } } := .link _ le_rfl le_rfl
    rw [h]
    exact .head (.move (.act hfree)) (pump_moves _).progresses
  · rw [h]

theorem restartReset_progresses (pins : BitVec 8) (spd : Level) (d : Device) :
    Progresses d (d.restartReset pins spd) := by
  rcases Device.restartReset_cases pins spd d with ⟨-, h⟩ | ⟨-, -, h⟩
  · rw [h]
    exact endReset_progresses _ _ _ d
  · rw [h]

theorem assertReset_progresses (d : Device) : Progresses d d.assertReset := by
  obtain ⟨he, hg⟩ := afterReset_fits d.fault .restart
  unfold Device.assertReset
  split
  · exact .single (holdReset_progress _ d)
  · exact .single (.reset (.held .pin) _ d.link.spd _ (heldReset_role d) he fun _ => hg)
  · exact .refl
  · exact .refl

theorem releaseReset_progresses (pins : BitVec 8) (spd : Level) (d : Device) :
    Progresses d (d.releaseReset pins spd) := by
  unfold Device.releaseReset
  split
  · exact endReset_progresses _ _ _ d
  · exact endReset_progresses _ _ _ d
  · exact .refl
  · exact .refl

theorem applySupply_progresses (rstN : Level) (pins : BitVec 8) (spd : Level) (d : Device) :
    Progresses d (d.applySupply rstN pins spd) := by
  cases rstN with
  | high => exact endReset_progresses _ _ _ d
  | low =>
    exact .single (.reset (.held .powerOn) _ .low _ (fun n => by simp [InputRec.default])
      (fun _ => Nat.zero_le _) fun _ => by decide)

theorem idle_progresses (d : Device) : Progresses d d.idle := by
  unfold Device.idle
  split
  · exact .refl
  · exact .refl
  · exact endReset_progresses _ _ _ d
  · split
    · exact (handOver_moves _ d).progresses
    · split
      · exact (sampleAll_moves _ _ d).progresses
      · exact .single .tick

theorem whileRunning_progresses {f : Device → Device} (hf : ∀ d, Progresses d (f d)) {s t : State}
    (h : whileRunning f s = .next t) : Progresses s.toDevice t.toDevice := by
  unfold whileRunning at h
  split at h
  · obtain rfl := Host.Outcome.next.inj h
    exact hf _
  · obtain rfl := Host.Outcome.next.inj h
    exact .refl

theorem request_progresses {r : Request} {tag : Byte} {p : List Byte} {s t : State}
    (h : request r tag p s = .next t) : Progresses s.toDevice t.toDevice :=
  whileRunning_progresses (fun d => (deliverFrame_moves _ d).progresses) h

/-- What a command does. -/
theorem exec_progresses (c : Instr) {s t : State} (h : exec c s = .next t) : Progresses s.toDevice t.toDevice := by
  have expiry (want : Device → Entry → Bool) (h : whileRunning (fun d => d.expiryOf (want d)) s = .next t) :
      Progresses s.toDevice t.toDevice :=
    whileRunning_progresses (fun d => (expiryOf_moves (want d) d).progresses) h
  have received (b : Byte) (h : whileRunning (Device.receiveByte b) s = .next t) :
      Progresses s.toDevice t.toDevice :=
    whileRunning_progresses (fun d => (receiveByte_moves b d).progresses) h
  cases c with
  | unknownRequest kind tag p => exact whileRunning_progresses (fun d => (deliverFrame_moves _ d).progresses) h
  | timerExpiry => exact expiry (fun _ => Entry.ofTimer) h
  | renewalDeadlineExpiry => exact expiry (fun d => d.entryWatchIn .running) h
  | graceDeadlineExpiry => exact expiry (fun d => d.entryWatchIn .warn) h
  | settleDeadlineExpiry => exact expiry (fun d => d.entryWatchIn .releasing) h
  | retripDeadlineExpiry => exact expiry (fun d e => e.owner == .watch 0 && d.entryWatchIn .tripped e) h
  | pulseEnd => exact expiry (fun _ => Entry.ofPulse) h
  | rstoPulseEnd => exact expiry (fun _ e => e.owner == .rstoPulse) h
  | resendDeadlineExpiry => exact expiry (fun _ e => e.owner == .resend) h
  | inputSample levels order => exact whileRunning_progresses (inputSample_progresses levels order) h
  | frameReceived b => exact received b h
  | noiseByte b => exact received b h
  | badLengthAbandon b => exact received b h
  | startByte => exact received 0xC3 h
  | frameContentByte b => exact received b h
  | gapTimeout => exact whileRunning_progresses (fun d => (gapTimeout_moves d).progresses) h
  | transmitComplete => exact whileRunning_progresses frameSent_progresses h
  | restartReset pins spd =>
    obtain rfl := Host.Outcome.next.inj h
    exact restartReset_progresses pins spd _
  | powerOn rstN pins spd =>
    obtain rfl := Host.Outcome.next.inj h
    exact applySupply_progresses rstN pins spd _
  | rstNAssert =>
    obtain rfl := Host.Outcome.next.inj h
    exact assertReset_progresses _
  | rstNRelease pins spd =>
    obtain rfl := Host.Outcome.next.inj h
    exact releaseReset_progresses pins spd _
  | _ => exact request_progresses h

/-- What a step does: every invariant follows from what `Progress` keeps. -/
theorem step_progresses {s t : State} (h : step s = .next t) : Progresses s.toDevice t.toDevice := by
  unfold step at h
  split at h
  · next c rest _ => exact exec_progresses (s := { s with pending := rest }) c h
  · obtain rfl := Host.Outcome.next.inj h
    exact idle_progresses _

/-- A predicate that every progress keeps is an invariant of the step. -/
theorem step_keeps {P : Device → Prop} (hP : ∀ d d', Progress d d' → P d → P d') {s t : State} (hs : P s.toDevice)
    (h : step s = .next t) : P t.toDevice := by
  have keeps {d d' : Device} (h : Progresses d d') (hd : P d) : P d' := by
    induction h with
    | refl => exact hd
    | tail _ h ih => exact hP _ _ h ih
  exact keeps (step_progresses h) hs

end Sys2Proof.Machine
end

section
/-! The deadline list: where an insertion places an entry, the order of the list through every step (R8), and the
past-due hand-overs, none of which a step leaves outstanding (R13, R14). -/

namespace Sys2Proof.Machine

/-! ### Placing and sorting -/

/-- Where placing puts an entry: behind those that stand before it by the order of R8. -/
theorem placeEntry_split {e : Entry} {l : List Entry} (hl : l.Pairwise (fun e f => e.due ≤ f.due))
    (hp : ∀ f ∈ l, f.pos < e.pos) :
    ∃ before after, l = before ++ after ∧ placeEntry e l = before ++ e :: after ∧
      (∀ f ∈ before, f.due ≤ e.due) ∧ ∀ f ∈ after, e.due < f.due := by
  induction l with
  | nil => exact ⟨[], [], rfl, rfl, by simp, by simp⟩
  | cons f rest ih =>
    obtain ⟨hf, hrest⟩ := List.pairwise_cons.mp hl
    have hpf := hp f (by simp)
    by_cases hb : e.before f = true
    · have hlt : e.due < f.due := by
        rw [Entry.before_iff] at hb
        omega
      refine ⟨[], f :: rest, rfl, by rw [placeEntry, if_pos hb]; rfl, by simp, fun g hg => ?_⟩
      rcases List.mem_cons.mp hg with rfl | hg
      · exact hlt
      · exact lt_of_lt_of_le hlt (hf g hg)
    · obtain ⟨before, after, h1, h2, h3, h4⟩ := ih hrest fun g hg => hp g (by simp [hg])
      refine ⟨f :: before, after, by rw [h1]; rfl, by rw [placeEntry, if_neg hb, h2]; rfl, fun g hg => ?_, h4⟩
      rcases List.mem_cons.mp hg with rfl | hg
      · rw [Entry.before_iff] at hb
        omega
      · exact h3 g hg

/-- What the entry of an insertion is (R1, R9, R13, R14), by its recorded due instant. -/
theorem newEntry_recorded (d : Device) (l : List Entry) (o : Owner) (due : Int) (wall : Option Nat) :
    ((d.elapsed : Int) < clipDue due →
      (d.newEntry l o due wall).due = clipDue due ∧ (d.newEntry l o due wall).pastDue = false) ∧
    (clipDue due ≤ d.elapsed → o ∉ d.handed →
      (d.newEntry l o due wall).due = clipDue due ∧ (d.newEntry l o due wall).pastDue = wall.isSome) ∧
    (clipDue due ≤ d.elapsed → o ∈ d.handed →
      (d.newEntry l o due wall).due = clipDue (d.elapsed + 1) ∧ (d.newEntry l o due wall).pastDue = false) := by
  refine ⟨fun h => ?_, fun h ho => ?_, fun h ho => ?_⟩
  · rw [Device.newEntry_later d l o wall h]
    exact ⟨rfl, rfl⟩
  · unfold Device.newEntry
    dsimp only
    rw [if_neg (fun hc => ho hc.2)]
    exact ⟨rfl, by simp [h]⟩
  · unfold Device.newEntry
    dsimp only
    rw [if_pos ⟨h, ho⟩]
    exact ⟨rfl, rfl⟩

/-- An insertion makes an entry past due only for an absolute timer not handed over at this instant (R13, R14). -/
theorem newEntry_pastDue {d : Device} {l : List Entry} {o : Owner} {due : Int} {wall : Option Nat}
    (h : (d.newEntry l o due wall).pastDue = true) : wall.isSome ∧ o ∉ d.handed := by
  obtain ⟨h1, h2, h3⟩ := newEntry_recorded d l o due wall
  rcases lt_or_ge (d.elapsed : Int) (clipDue due) with hd | hd
  · simp [(h1 hd).2] at h
  · by_cases ho : o ∈ d.handed
    · simp [(h3 hd ho).2] at h
    · exact ⟨(h2 hd ho).2 ▸ h, ho⟩

theorem foldl_placeEntry_perm (l acc : List Entry) :
    (l.foldl (fun acc e => placeEntry e acc) acc).Perm (l ++ acc) := by
  induction l generalizing acc with
  | nil => exact .refl _
  | cons e l ih => exact (ih _).trans (((perm_placeEntry e acc).append_left l).trans List.perm_middle)

theorem sortEntries_perm (l : List Entry) : (sortEntries l).Perm l :=
  (foldl_placeEntry_perm l []).trans (by simp)

/-- Sorting gives the order of R8, where no two entries share an insertion position. -/
theorem pairwise_foldl_placeEntry {l acc : List Entry}
    (ha : acc.Pairwise (fun e f => e.due < f.due ∨ (e.due = f.due ∧ e.pos < f.pos)))
    (hp : ((l ++ acc).map Entry.pos).Nodup) :
    (l.foldl (fun acc e => placeEntry e acc) acc).Pairwise
      (fun e f => e.due < f.due ∨ (e.due = f.due ∧ e.pos < f.pos)) := by
  induction l generalizing acc with
  | nil => exact ha
  | cons e l ih =>
    have hperm : ((e :: l ++ acc).map Entry.pos).Perm ((l ++ placeEntry e acc).map Entry.pos) :=
      (((perm_placeEntry e acc).append_left l).trans List.perm_middle).symm.map _
    have hfresh : ∀ f ∈ acc, f.pos ≠ e.pos := fun f hf he => by
      simp only [List.cons_append, List.map_cons, List.nodup_cons, List.mem_map, not_exists, not_and] at hp
      exact hp.1 f (by simp [hf]) he
    exact ih (pairwise_placeEntry ha hfresh) (hperm.nodup_iff.mp hp)

theorem pairwise_sortEntries {l : List Entry} (hp : (l.map Entry.pos).Nodup) :
    (sortEntries l).Pairwise (fun e f => e.due < f.due ∨ (e.due = f.due ∧ e.pos < f.pos)) :=
  pairwise_foldl_placeEntry .nil (by simpa using hp)

@[simp] theorem Entry.rekey_owner (off : Int) (now : Nat) (e : Entry) : (e.rekey off now).owner = e.owner := by
  unfold Entry.rekey
  split <;> rfl

@[simp] theorem Entry.rekey_pos (off : Int) (now : Nat) (e : Entry) : (e.rekey off now).pos = e.pos := by
  unfold Entry.rekey
  split <;> rfl

@[simp] theorem Entry.rekey_wall (off : Int) (now : Nat) (e : Entry) : (e.rekey off now).wall = e.wall := by
  unfold Entry.rekey
  split <;> simp_all

theorem Entry.rekey_of_none {e : Entry} (h : e.wall = none) (off : Int) (now : Nat) : e.rekey off now = e := by
  unfold Entry.rekey
  split
  · rfl
  · next w hw =>
    rw [h] at hw
    cases hw

/-! ### The list stays in order -/

theorem listOrdered_of_deadlines {d d' : Device} (hd : d'.deadlines = d.deadlines) (h : d.listOrdered) :
    d'.listOrdered := by
  unfold Device.listOrdered at *
  rwa [hd]

theorem TimerChange.listOrdered {d d' : Device} (h : TimerChange d d') (hd : d.listOrdered) : d'.listOrdered := by
  cases h with
  | take t => exact Device.listOrdered_removeEntry hd (.timer t)
  | schedule t due => exact Device.listOrdered_insertEntry hd _ _ _
  | unschedule t => exact Device.listOrdered_removeEntry hd _
  | pulse => exact Device.listOrdered_insertEntry (listOrdered_of_deadlines (by rfl) hd) _ _ _
  | rest n => exact Device.listOrdered_removeEntry hd (.pulse n)
  | _ => exact hd

theorem TimerWork.listOrdered {d d' : Device} (h : TimerWork d d') (hd : d.listOrdered) : d'.listOrdered := by
  cases h with
  | change h => exact h.listOrdered hd
  | schedule => exact Device.listOrdered_insertEntry hd _ _ _

theorem TimerWorks.listOrdered {d d' : Device} (h : TimerWorks d d') (hd : d.listOrdered) : d'.listOrdered := by
  induction h with
  | refl => exact hd
  | tail _ h ih => exact h.listOrdered ih

theorem Change.listOrdered {d d' : Device} (h : Change d d') (hd : d.listOrdered) : d'.listOrdered := by
  cases h with
  | timer h => exact h.listOrdered hd
  | take o => exact Device.listOrdered_removeEntry hd o
  | insert => exact Device.listOrdered_insertEntry hd _ _ _
  | remove => exact Device.listOrdered_removeEntry hd _
  | _ => exact hd

theorem releaseBinding_listOrdered (n : Fin 8) {d : Device} (h : d.listOrdered) : (d.releaseBinding n).listOrdered :=
  Device.listOrdered_removeEntry (d := d.setLine n { d.lines[n] with shadow := .rest, pulseEnd := none }) h (.pulse n)

theorem releaseClaims_listOrdered (r : TimerRec) {d : Device} (h : d.listOrdered) :
    (d.releaseClaims r).listOrdered := by
  unfold Device.releaseClaims
  cases r.output with
  | none => cases r.source <;> exact h
  | some a => cases r.source <;> exact releaseBinding_listOrdered a.line h

theorem takeClaims_deadlines (t : Fin 24) (r : TimerRec) (d : Device) :
    (d.takeClaims t r).deadlines = d.deadlines := by
  unfold Device.takeClaims
  cases r.output <;> cases r.source <;> rfl

theorem releaseCheckin_deadlines (r : WatchRec) (d : Device) : (d.releaseCheckin r).deadlines = d.deadlines := by
  unfold Device.releaseCheckin
  cases r.source <;> rfl

theorem takeCheckin_deadlines (w : Fin 16) (r : WatchRec) (d : Device) :
    (d.takeCheckin w r).deadlines = d.deadlines := by
  unfold Device.takeCheckin
  cases r.source <;> rfl

theorem defineWatch_deadlines (w : Fin 16) (r : WatchRec) (d : Device) :
    (d.defineWatch w r).deadlines = d.deadlines := by
  rw [Device.defineWatch_eq, takeCheckin_deadlines]
  unfold Device.forgetWatch
  split
  · exact releaseCheckin_deadlines _ d
  · rfl

theorem freeWatch_deadlines (w : Fin 16) (r : WatchRec) (d : Device) :
    (d.freeWatch w r).deadlines = removeOwner (.watch w) d.deadlines :=
  releaseCheckin_deadlines r (d.removeEntry (.watch w))

theorem Act.listOrdered {d d' : Device} (h : Act d d') (hd : d.listOrdered) : d'.listOrdered := by
  cases h with
  | change h => exact h.listOrdered hd
  | settle h => exact (drainPastDue_works _).listOrdered (h.listOrdered hd)
  | @defineTimer t _ r =>
    have hf : (d.forgetTimer t).listOrdered := by
      unfold Device.forgetTimer
      split
      · exact releaseClaims_listOrdered _ hd
      · exact hd
    exact listOrdered_of_deadlines (takeClaims_deadlines t r _) hf
  | freeTimer => exact releaseClaims_listOrdered _ hd
  | defineWatch => exact listOrdered_of_deadlines (defineWatch_deadlines _ _ d) hd
  | @freeWatch w r =>
    exact listOrdered_of_deadlines (freeWatch_deadlines w r d) (Device.listOrdered_removeEntry hd (.watch w))
  | _ => exact hd

theorem foldl_insertEntry_listOrdered (l : List Entry) {d : Device} (h : d.listOrdered) :
    (l.foldl (fun acc e => acc.insertEntry e.owner e.due e.wall) d).listOrdered := by
  induction l generalizing d with
  | nil => exact h
  | cons e l ih => exact ih (Device.listOrdered_insertEntry h _ _ _)

/-- The re-keying of absolute entries keeps the list in order (R5, R8). -/
theorem rekeyEntries_listOrdered {d : Device} (h : d.listOrdered) : d.rekeyEntries.listOrdered := by
  obtain ⟨-, ho, hp⟩ := h
  have hkept : ((d.deadlines.map (Entry.rekey d.wallOffset d.elapsed)).filter
      fun e => !d.delayedEntry e).Sublist (d.deadlines.map (Entry.rekey d.wallOffset d.elapsed)) :=
    List.filter_sublist
  have hperm := sortEntries_perm
    ((d.deadlines.map (Entry.rekey d.wallOffset d.elapsed)).filter fun e => !d.delayedEntry e)
  have howner : ((d.deadlines.map (Entry.rekey d.wallOffset d.elapsed)).map Entry.owner).Nodup := by
    simpa [Function.comp_def] using ho
  have hpos : ((d.deadlines.map (Entry.rekey d.wallOffset d.elapsed)).map Entry.pos).Nodup := by
    simpa [Function.comp_def] using hp
  have hposKept := hpos.sublist (hkept.map _)
  exact foldl_insertEntry_listOrdered _ ⟨pairwise_sortEntries hposKept,
    (hperm.map _).nodup_iff.mpr (howner.sublist (hkept.map _)), (hperm.map _).nodup_iff.mpr hposKept⟩

theorem initial_listOrdered (inputs : Vector InputRec 8) (spd : Level) (f : FaultRecord) :
    (Device.initial inputs spd f).listOrdered :=
  ⟨List.pairwise_singleton _ _, by simp [Device.initial], by simp [Device.initial]⟩

theorem tick_deadlines (d : Device) : d.tick.deadlines = d.deadlines := by
  unfold Device.tick
  split <;> rfl

theorem Move.listOrdered {d d' : Device} (h : Move d d') (hd : d.listOrdered) : d'.listOrdered := by
  cases h with
  | act h => exact h.listOrdered hd
  | setWall off =>
    exact (drainPastDue_works _).listOrdered (rekeyEntries_listOrdered (listOrdered_of_deadlines (by rfl) hd))
  | endPulse n => exact Device.listOrdered_removeEntry hd (.pulse n)
  | _ => exact hd

theorem Progress.listOrdered {d d' : Device} (h : Progress d d') (hd : d.listOrdered) : d'.listOrdered := by
  cases h with
  | move h => exact h.listOrdered hd
  | tick => exact listOrdered_of_deadlines (tick_deadlines d) hd
  | reset m inputs spd f => exact initial_listOrdered inputs spd f

/-- Every owner (Table 1-2): 24 timers, 16 watches, 8 pulses, the RSTO pulse and the resend deadline. -/
def allOwners : List Owner :=
  (List.finRange 24).map .timer ++ (List.finRange 16).map .watch ++ (List.finRange 8).map .pulse ++
    [.rstoPulse, .resend]

theorem mem_allOwners (o : Owner) : o ∈ allOwners := by
  cases o <;> simp [allOwners]

/-- A list with one entry an owner has at most 50 entries (R8). -/
theorem Device.listOrdered.length_le {d : Device} (h : d.listOrdered) : d.deadlines.length ≤ 50 := by
  obtain ⟨-, ho, -⟩ := h
  calc d.deadlines.length = (d.deadlines.map Entry.owner).length := by simp
    _ ≤ allOwners.length := (ho.subperm fun o _ => mem_allOwners o).length_le
    _ = 50 := by simp [allOwners]

/-- Settles O53: every progress that makes up a step inserts, removes or re-keys, all of which keep the order; one
entry an owner bounds the list by the owners. -/
theorem deadlineListStaysOrdered : Obligations.DeadlineListStaysOrdered := by
  unfold Obligations.DeadlineListStaysOrdered
  exact ⟨fun _ _ hs h => step_keeps (fun _ _ h => h.listOrdered) hs h, fun _ h => h.length_le⟩

/-! ### Past-due hand-overs -/

/-- What holds within an event (R13, R14): an absolute entry is a timer's, and a past-due one that of a timer not handed
over at this instant. -/
def Device.settling (d : Device) : Prop :=
  ∀ e ∈ d.deadlines, (e.wall.isSome → ∃ t, e.owner = .timer t) ∧
    (e.pastDue = true → ∃ t, e.owner = .timer t ∧ .timer t ∉ d.handed)

theorem Device.settled.settling {d : Device} (h : d.settled) : d.settling := by
  obtain ⟨hp, hw⟩ := h
  exact fun e he => ⟨hw e he, fun hpd => by simp [hp e he] at hpd⟩

/-- A removal, with the owner handed over or not, leaves no new entry. -/
theorem settling_takeOwner {d : Device} (h : d.settling) (o : Owner) : (d.takeOwner o).settling := by
  intro e he
  obtain ⟨he, hne⟩ := mem_removeOwner.mp he
  obtain ⟨hw, hp⟩ := h e he
  refine ⟨hw, fun hpd => ?_⟩
  obtain ⟨t, ht, hh⟩ := hp hpd
  refine ⟨t, ht, ?_⟩
  rw [Device.takeOwner_handed, List.mem_cons, not_or]
  exact ⟨fun hc => hne (ht.trans hc), hh⟩

/-- A predicate that the list's entries have keeps holding where every entry stood before. -/
theorem settling_of_subset {d d' : Device} (hd : ∀ e ∈ d'.deadlines, e ∈ d.deadlines) (hh : d'.handed = d.handed)
    (h : d.settling) : d'.settling := fun e he => by
  rw [hh]
  exact h e (hd e he)

theorem settling_insertEntry {d : Device} (h : d.settling) {o : Owner} (due : Int) {wall : Option Nat}
    (hw : wall.isSome → ∃ t, o = .timer t) : (d.insertEntry o due wall).settling := by
  intro e he
  rcases mem_placeEntry.mp he with rfl | he
  · refine ⟨by simpa using hw, fun hpd => ?_⟩
    obtain ⟨hsome, hh⟩ := newEntry_pastDue hpd
    obtain ⟨t, rfl⟩ := hw hsome
    exact ⟨t, by simp, hh⟩
  · exact h e (mem_removeOwner.mp he).1

theorem settled_of_subset {d d' : Device} (hd : ∀ e ∈ d'.deadlines, e ∈ d.deadlines) (h : d.settled) : d'.settled :=
  ⟨fun e he => h.1 e (hd e he), fun e he => h.2 e (hd e he)⟩

theorem removeOwner_subset (o : Owner) (l : List Entry) : ∀ e ∈ removeOwner o l, e ∈ l :=
  fun _ he => (mem_removeOwner.mp he).1

/-- An entry without a due wall time is not past due (R13). -/
theorem settled_insertEntry {d : Device} (h : d.settled) (o : Owner) (due : Int) :
    (d.insertEntry o due none).settled := by
  have hnew : (d.newEntry (removeOwner o d.deadlines) o due none).pastDue = false := by
    by_contra hc
    exact absurd (newEntry_pastDue (by simpa using hc)).1 (by simp)
  refine ⟨fun e he => ?_, fun e he => ?_⟩ <;> rcases mem_placeEntry.mp he with rfl | he
  · exact hnew
  · exact h.1 e (mem_removeOwner.mp he).1
  · simp
  · exact h.2 e (mem_removeOwner.mp he).1

/-- All that a timer change does to the list and the engine's memory. -/
theorem TimerChange.deadlines_cases {d d' : Device} (h : TimerChange d d') :
    (∃ o due, d'.deadlines = (d.insertEntry o due none).deadlines ∧ d'.handed = d.handed) ∨
    (∃ t, d'.deadlines = removeOwner (.timer t) d.deadlines ∧ d'.handed = .timer t :: d.handed) ∨
    ((∀ e ∈ d'.deadlines, e ∈ d.deadlines) ∧ d'.handed = d.handed) := by
  cases h with
  | take t => exact .inr (.inl ⟨t, rfl, rfl⟩)
  | schedule t due => exact .inl ⟨_, _, rfl, rfl⟩
  | unschedule t => exact .inr (.inr ⟨removeOwner_subset _ _, rfl⟩)
  | @pulse _ _ a width => exact .inl ⟨.pulse a.line, d.elapsed + width, rfl, rfl⟩
  | rest n => exact .inr (.inr ⟨removeOwner_subset _ _, rfl⟩)
  | _ => exact .inr (.inr ⟨fun _ => id, rfl⟩)

theorem TimerChange.settled {d d' : Device} (h : TimerChange d d') (hd : d.settled) : d'.settled := by
  rcases h.deadlines_cases with ⟨o, due, hl, -⟩ | ⟨t, hl, -⟩ | ⟨hl, -⟩
  · exact settled_of_subset (by rw [hl]; exact fun _ => id) (settled_insertEntry hd o due)
  · exact settled_of_subset (by rw [hl]; exact removeOwner_subset _ _) hd
  · exact settled_of_subset hl hd

theorem Change.settled {d d' : Device} (h : Change d d') (hd : d.settled) : d'.settled := by
  cases h with
  | timer h => exact h.settled hd
  | take o => exact settled_of_subset (removeOwner_subset o _) hd
  | insert o due => exact settled_insertEntry hd o due
  | remove o => exact settled_of_subset (removeOwner_subset o _) hd
  | _ => exact hd

theorem TimerWork.settling {d d' : Device} (h : TimerWork d d') (hd : d.settling) : d'.settling := by
  cases h with
  | schedule t due wall => exact settling_insertEntry hd due fun _ => ⟨t, rfl⟩
  | change h =>
    rcases h.deadlines_cases with ⟨o, due, hl, hh⟩ | ⟨t, hl, hh⟩ | ⟨hl, hh⟩
    · exact settling_of_subset (d := d.insertEntry o due none) (by rw [hl]; exact fun _ => id) hh
        (settling_insertEntry hd due (by simp))
    · exact settling_of_subset (d := d.takeOwner (.timer t)) (by rw [hl]; exact fun _ => id) hh
        (settling_takeOwner hd (.timer t))
    · exact settling_of_subset hl hh hd

theorem TimerWorks.settling {d d' : Device} (h : TimerWorks d d') (hd : d.settling) : d'.settling := by
  induction h with
  | refl => exact hd
  | tail _ h ih => exact h.settling ih

/-- The work of an expiry forgets no owner handed over at this instant (R14). -/
theorem TimerWorks.handed_subset {d d' : Device} (h : TimerWorks d d') : d.handed ⊆ d'.handed := by
  induction h with
  | refl => exact List.Subset.refl _
  | tail _ h ih =>
    refine List.Subset.trans ih ?_
    cases h with
    | schedule => exact List.Subset.refl _
    | change h =>
      rcases h.deadlines_cases with ⟨-, -, -, hh⟩ | ⟨t, -, hh⟩ | ⟨-, hh⟩ <;> rw [hh]
      · exact List.Subset.refl _
      · exact List.subset_cons_self _ _
      · exact List.Subset.refl _

/-- The timers that the engine may still hand over at this instant (R14). -/
def Device.unhanded (d : Device) : List (Fin 24) := (List.finRange 24).filter fun t => .timer t ∉ d.handed

theorem mem_unhanded {d : Device} {t : Fin 24} : t ∈ d.unhanded ↔ .timer t ∉ d.handed := by
  simp [Device.unhanded]

theorem nodup_unhanded (d : Device) : d.unhanded.Nodup := (List.nodup_finRange 24).filter _

/-- A hand-over leaves one timer fewer to hand over. -/
theorem length_unhanded_lt {d d' : Device} {t : Fin 24} (ht : t ∈ d.unhanded)
    (h : (d.takeOwner (.timer t)).handed ⊆ d'.handed) : d'.unhanded.length < d.unhanded.length := by
  have hsub : t :: d'.unhanded ⊆ d.unhanded := fun u hu => by
    rcases List.mem_cons.mp hu with rfl | hu
    · exact ht
    · rw [mem_unhanded] at hu ⊢
      exact fun hc => hu (h (List.mem_cons_of_mem _ hc))
  have hnot : t ∉ d'.unhanded := fun hc => mem_unhanded.mp hc (h (by simp))
  have hnodup : (t :: d'.unhanded).Nodup := List.nodup_cons.mpr ⟨hnot, nodup_unhanded d'⟩
  exact (hnodup.subperm hsub).length_le

/-- Hand-overs to the end: with fuel for every timer not handed over yet, none is left past due (R13, R14). -/
theorem drain_settled (fuel : Nat) {d : Device} (h : d.settling) (hf : d.unhanded.length ≤ fuel) :
    (drain fuel d).settled := by
  induction fuel generalizing d with
  | zero =>
    refine ⟨fun e he => ?_, fun e he => (h e he).1⟩
    by_contra hc
    obtain ⟨t, -, ht⟩ := (h e he).2 (by simpa using hc)
    have := List.length_pos_of_mem (mem_unhanded.mpr ht)
    omega
  | succ fuel ih =>
    cases he : d.deadlines.find? (fun e => e.pastDue) with
    | none =>
      rw [drain, he]
      rw [List.find?_eq_none] at he
      exact ⟨fun e hm => by simpa using he e hm, fun e hm => (h e hm).1⟩
    | some e =>
      obtain ⟨t, ho, ht⟩ := (h e (List.mem_of_find?_eq_some he)).2 (by simpa using List.find?_some he)
      have hwork := expireTimer_works t e.due true (d.takeOwner (.timer t))
      have hless := length_unhanded_lt (mem_unhanded.mpr ht) hwork.handed_subset
      rw [drain_cons he ho]
      exact ih (hwork.settling (settling_takeOwner h _)) (by omega)

theorem drainPastDue_settled {d : Device} (h : d.settling) : d.drainPastDue.settled :=
  drain_settled 24 h (le_trans (List.length_filter_le _ _) (by simp))

theorem releaseClaims_subset (r : TimerRec) (d : Device) : ∀ e ∈ (d.releaseClaims r).deadlines, e ∈ d.deadlines := by
  unfold Device.releaseClaims
  cases r.output with
  | none => cases r.source <;> exact fun _ => id
  | some a => cases r.source <;> exact removeOwner_subset (.pulse a.line) d.deadlines

theorem forgetTimer_subset (t : Fin 24) (d : Device) : ∀ e ∈ (d.forgetTimer t).deadlines, e ∈ d.deadlines := by
  unfold Device.forgetTimer
  split
  · exact releaseClaims_subset _ d
  · exact fun _ => id

theorem Act.settled {d d' : Device} (h : Act d d') (hd : d.settled) : d'.settled := by
  cases h with
  | change h => exact h.settled hd
  | settle h => exact drainPastDue_settled (h.settling hd.settling)
  | @defineTimer t _ r =>
    refine settled_of_subset ?_ hd
    rw [Device.defineTimer_eq, takeClaims_deadlines]
    exact forgetTimer_subset t d
  | @freeTimer _ r => exact settled_of_subset (releaseClaims_subset r d) hd
  | defineWatch => exact settled_of_subset (by rw [defineWatch_deadlines]; exact fun _ => id) hd
  | freeWatch => exact settled_of_subset (by rw [freeWatch_deadlines]; exact removeOwner_subset _ _) hd
  | _ => exact hd

/-- An entry delayed by R14 stands for an absolute one. -/
theorem wall_of_pastDue_rekey {d : Device} (h : d.settled) {e : Entry}
    (he : e ∈ d.deadlines.map (Entry.rekey d.wallOffset d.elapsed)) (hp : e.pastDue = true) : e.wall.isSome := by
  obtain ⟨f, hf, rfl⟩ := List.mem_map.mp he
  cases hw : f.wall with
  | some w => simp [hw]
  | none =>
    rw [Entry.rekey_of_none hw, h.1 f hf] at hp
    cases hp

theorem wall_owner_rekey {d : Device} (h : d.settled) {e : Entry}
    (he : e ∈ d.deadlines.map (Entry.rekey d.wallOffset d.elapsed)) (hw : e.wall.isSome) : ∃ t, e.owner = .timer t := by
  obtain ⟨f, hf, rfl⟩ := List.mem_map.mp he
  obtain ⟨t, ht⟩ := h.2 f hf (by simpa using hw)
  exact ⟨t, by simpa using ht⟩

theorem foldl_insertEntry_settling {l : List Entry} (hl : ∀ e ∈ l, e.wall.isSome → ∃ t, e.owner = .timer t)
    {d : Device} (h : d.settling) :
    (l.foldl (fun acc e => acc.insertEntry e.owner e.due e.wall) d).settling := by
  induction l generalizing d with
  | nil => exact h
  | cons e l ih => exact ih (fun f hf => hl f (by simp [hf])) (settling_insertEntry h e.due (hl e (by simp)))

/-- The re-keying leaves past-due entries of timers not handed over alone (R5, R14). -/
theorem rekeyEntries_settling {d : Device} (h : d.settled) : d.rekeyEntries.settling := by
  refine foldl_insertEntry_settling (fun e he => wall_owner_rekey h (List.mem_of_mem_filter he)) fun e he => ?_
  obtain ⟨hm, hk⟩ := List.mem_filter.mp ((sortEntries_perm _).mem_iff.mp he)
  refine ⟨wall_owner_rekey h hm, fun hp => ?_⟩
  obtain ⟨t, ht⟩ := wall_owner_rekey h hm (wall_of_pastDue_rekey h hm hp)
  exact ⟨t, ht, by simpa [Device.delayedEntry, hp, ht] using hk⟩

theorem Move.settled {d d' : Device} (h : Move d d') (hd : d.settled) : d'.settled := by
  cases h with
  | act h => exact h.settled hd
  | setWall off => exact drainPastDue_settled (rekeyEntries_settling (d := { d with wallOffset := off }) hd)
  | endPulse n => exact settled_of_subset (removeOwner_subset (.pulse n) _) hd
  | _ => exact hd

theorem Progress.settled {d d' : Device} (h : Progress d d') (hd : d.settled) : d'.settled := by
  cases h with
  | move h => exact h.settled hd
  | tick => exact settled_of_subset (by rw [tick_deadlines]; exact fun _ => id) hd
  | reset => exact ⟨by simp [Device.initial], by simp [Device.initial]⟩

/-- Settles O54: within an event only timers not yet handed over have past-due entries, each hand-over leaves one such
timer fewer, and every event that inserts an absolute entry hands over to the end. -/
theorem pastDueHandOversComplete : Obligations.PastDueHandOversComplete := by
  unfold Obligations.PastDueHandOversComplete
  exact fun _ _ hs h => step_keeps (fun _ _ h => h.settled) hs h

/-! ### Insertion -/

/-- Settles O16: `placeEntry_split` gives the place, `newEntry_recorded` the entry. -/
theorem insertionPlacesEntry : Obligations.InsertionPlacesEntry := by
  unfold Obligations.InsertionPlacesEntry
  intro d o due wall h
  obtain ⟨horder, -, -⟩ := Device.listOrdered_removeEntry h o
  have hdue : (removeOwner o d.deadlines).Pairwise (fun e f => e.due ≤ f.due) :=
    horder.imp fun {e f} h => by omega
  obtain ⟨before, after, hl, hplace, hb, ha⟩ :=
    placeEntry_split (e := d.newEntry (removeOwner o d.deadlines) o due wall) hdue fun f hf => by
      simpa using pos_lt_freshPos hf
  refine ⟨before, after, _, ?_, hplace, by simp, by simp, hb, ha, newEntry_recorded d _ o due wall⟩
  rw [← hl, removeOwner]
  exact List.filter_congr fun e _ => by simp [bne, beq_eq_decide]

end Sys2Proof.Machine
end

section
/-! Bindings, input claims, pulses and capacities through every step (R1, R23, R114, R123, R126, R143, R174, R176). -/

namespace Sys2Proof.Machine

/-! ### Claims by line -/

/-- The output line that a timer's action names, if it has one (R23). -/
def Device.boundLine (d : Device) (t : Fin 24) : Option (Fin 8) :=
  (d.timers[t].bind TimerRec.output).map OutputAction.line

/-- The input line that a timer's source claims, if it claims one (R23). -/
def Device.countLine (d : Device) (t : Fin 24) : Option (Fin 8) := d.timers[t].bind fun r => r.source.inputLine

/-- The input line that a watch's source claims, if it claims one (R143). -/
def Device.checkinLine (d : Device) (w : Fin 16) : Option (Fin 8) := d.watches[w].bind fun r => r.source.inputLine

theorem boundLine_eq_some {d : Device} {t : Fin 24} {n : Fin 8} :
    d.boundLine t = some n ↔ ∃ r a, d.timers[t] = some r ∧ r.output = some a ∧ a.line = n := by
  simp [Device.boundLine, Option.bind_eq_some_iff]

theorem timerSource_inputLine_eq_some {src : TimerSource} {n : Fin 8} :
    src.inputLine = some n ↔ ∃ e, src = .input n e := by
  cases src <;> simp [TimerSource.inputLine]

theorem watchSource_inputLine_eq_some {src : WatchSource} {n : Fin 8} :
    src.inputLine = some n ↔ ∃ a, src = .line n a := by
  cases src <;> simp [WatchSource.inputLine]

theorem countLine_eq_some {d : Device} {t : Fin 24} {n : Fin 8} :
    d.countLine t = some n ↔ ∃ r e, d.timers[t] = some r ∧ r.source = .input n e := by
  simp [Device.countLine, Option.bind_eq_some_iff, timerSource_inputLine_eq_some]

theorem checkinLine_eq_some {d : Device} {w : Fin 16} {n : Fin 8} :
    d.checkinLine w = some n ↔ ∃ r a, d.watches[w] = some r ∧ r.source = .line n a := by
  simp [Device.checkinLine, Option.bind_eq_some_iff, watchSource_inputLine_eq_some]

/-- The claims, by the line that each definition names. -/
theorem claimsKept_iff (d : Device) :
    d.claimsKept ↔
      (∀ (n : Fin 8) (t : Fin 24), d.lines[n].binding = some t ↔ d.boundLine t = some n) ∧
      (∀ (n : Fin 8) (t : Fin 24), d.inputs[n].role = .count t ↔ d.countLine t = some n) ∧
      (∀ (n : Fin 8) (w : Fin 16), d.inputs[n].role = .checkin w ↔ d.checkinLine w = some n) ∧
      ∀ (n : Fin 8) (t : Fin 24) e act, d.inputs[n].role = .trigger t e act → d.timers[t].isSome := by
  simp only [Device.claimsKept, boundLine_eq_some, countLine_eq_some, checkinLine_eq_some]

/-- What the claims depend on is the same. -/
structure Device.SameClaims (d d' : Device) : Prop where
  binding : ∀ n : Fin 8, d'.lines[n].binding = d.lines[n].binding
  role : ∀ n : Fin 8, d'.inputs[n].role = d.inputs[n].role
  bound : ∀ t, d'.boundLine t = d.boundLine t
  count : ∀ t, d'.countLine t = d.countLine t
  checkin : ∀ w, d'.checkinLine w = d.checkinLine w
  defined : ∀ t : Fin 24, d'.timers[t].isSome = d.timers[t].isSome

theorem Device.SameClaims.claimsKept {d d' : Device} (h : d.SameClaims d') (hd : d.claimsKept) : d'.claimsKept := by
  rw [claimsKept_iff] at *
  simpa only [h.binding, h.role, h.bound, h.count, h.checkin, h.defined] using hd

/-- Tables left as they are, with bindings and roles. -/
theorem sameClaims_of_tables {d d' : Device} (ht : d'.timers = d.timers) (hw : d'.watches = d.watches)
    (hb : ∀ n : Fin 8, d'.lines[n].binding = d.lines[n].binding)
    (hr : ∀ n : Fin 8, d'.inputs[n].role = d.inputs[n].role) : d.SameClaims d' :=
  ⟨hb, hr, fun t => by rw [Device.boundLine, ht, Device.boundLine],
    fun t => by rw [Device.countLine, ht, Device.countLine],
    fun w => by rw [Device.checkinLine, hw, Device.checkinLine], fun t => by rw [ht]⟩

/-- A property of one line after a write, where the new record has it as the old one. -/
theorem forall_binding_setLine (d : Device) (n : Fin 8) {l : LineRec} (hl : l.binding = d.lines[n].binding)
    (m : Fin 8) : (d.setLine n l).lines[m].binding = d.lines[m].binding :=
  forall_getElem_set (p := fun m (l : LineRec) => l.binding = d.lines[m].binding) hl (fun _ => rfl) m

theorem boundLine_of_timers {d d' : Device} {t : Fin 24} {r : Option TimerRec}
    (h : d'.timers = d.timers.set t r) (u : Fin 24) :
    d'.boundLine u = if u = t then (r.bind TimerRec.output).map OutputAction.line else d.boundLine u := by
  rw [Device.boundLine, h, getElem_set_fin, Device.boundLine]
  split <;> rfl

theorem countLine_of_timers {d d' : Device} {t : Fin 24} {r : Option TimerRec}
    (h : d'.timers = d.timers.set t r) (u : Fin 24) :
    d'.countLine u = if u = t then r.bind fun r => r.source.inputLine else d.countLine u := by
  rw [Device.countLine, h, getElem_set_fin, Device.countLine]
  split <;> rfl

theorem checkinLine_of_watches {d d' : Device} {w : Fin 16} {r : Option WatchRec}
    (h : d'.watches = d.watches.set w r) (u : Fin 16) :
    d'.checkinLine u = if u = w then r.bind fun r => r.source.inputLine else d.checkinLine u := by
  rw [Device.checkinLine, h, getElem_set_fin, Device.checkinLine]
  split <;> rfl

theorem setTimer_sameClaims {d : Device} {t : Fin 24} {r r' : TimerRec} (h : d.timers[t] = some r)
    (ho : r'.output = r.output) (hs : r'.source = r.source) : d.SameClaims (d.setTimer t (some r')) := by
  refine ⟨fun _ => rfl, fun _ => rfl, fun u => ?_, fun u => ?_, fun _ => rfl, fun u => ?_⟩
  · rw [boundLine_of_timers (d := d) rfl]
    split
    · next hu => simp only [hu, Device.boundLine, h, Option.bind_some, ho]
    · rfl
  · rw [countLine_of_timers (d := d) rfl]
    split
    · next hu => simp only [hu, Device.countLine, h, Option.bind_some, hs]
    · rfl
  · rw [Device.setTimer_timers, getElem_set_fin]
    split
    · next hu => simp only [hu, h, Option.isSome_some]
    · rfl

theorem setWatch_sameClaims {d : Device} {w : Fin 16} {r r' : WatchRec} (h : d.watches[w] = some r)
    (hs : r'.source = r.source) : d.SameClaims (d.setWatch w (some r')) := by
  refine ⟨fun _ => rfl, fun _ => rfl, fun _ => rfl, fun _ => rfl, fun u => ?_, fun _ => rfl⟩
  rw [checkinLine_of_watches (d := d) rfl]
  split
  · next hu => simp only [hu, Device.checkinLine, h, Option.bind_some, hs]
  · rfl

theorem TimerChange.sameClaims {d d' : Device} (h : TimerChange d d') : d.SameClaims d' := by
  cases h with
  | record h ho hs => exact setTimer_sameClaims h ho hs
  | @pulse _ _ a =>
    exact sameClaims_of_tables rfl rfl (forall_binding_setLine d a.line (by rfl)) fun _ => rfl
  | rest n => exact sameClaims_of_tables rfl rfl (forall_binding_setLine d n (by rfl)) fun _ => rfl
  | lines v h => exact sameClaims_of_tables rfl rfl (fun n => (h n).1) fun _ => rfl
  | _ => exact sameClaims_of_tables rfl rfl (fun _ => rfl) fun _ => rfl

theorem TimerWork.sameClaims {d d' : Device} (h : TimerWork d d') : d.SameClaims d' := by
  cases h with
  | change h => exact h.sameClaims
  | schedule => exact sameClaims_of_tables rfl rfl (fun _ => rfl) fun _ => rfl

theorem TimerWorks.claimsKept {d d' : Device} (h : TimerWorks d d') (hd : d.claimsKept) : d'.claimsKept := by
  induction h with
  | refl => exact hd
  | tail _ h ih => exact h.sameClaims.claimsKept ih

theorem Change.sameClaims {d d' : Device} (h : Change d d') : d.SameClaims d' := by
  cases h with
  | timer h => exact h.sameClaims
  | watch h hs => exact setWatch_sameClaims h hs
  | _ => exact sameClaims_of_tables rfl rfl (fun _ => rfl) fun _ => rfl

/-! ### Definitions -/

theorem releaseClaims_binding (r : TimerRec) (d : Device) (n : Fin 8) :
    (d.releaseClaims r).lines[n].binding =
      if r.output.map OutputAction.line = some n then none else d.lines[n].binding := by
  have key : ∀ a : OutputAction, (d.releaseBinding a.line).lines[n].binding =
      if a.line = n then none else d.lines[n].binding := fun a => by
    simp only [Device.releaseBinding, Device.restLine, Device.setLine_lines, Device.removeEntry_lines, getElem_set_fin]
    by_cases h : n = a.line <;> simp [h, eq_comm]
  unfold Device.releaseClaims
  cases r.output with
  | none => cases r.source <;> simp
  | some a => cases r.source <;> simpa using key a

theorem releaseClaims_role (r : TimerRec) (d : Device) (n : Fin 8) :
    (d.releaseClaims r).inputs[n].role =
      if r.source.inputLine = some n then .none else d.inputs[n].role := by
  unfold Device.releaseClaims
  cases r.source with
  | input m e =>
    cases r.output <;> by_cases h : n = m <;>
      simp [TimerSource.inputLine, getElem_set_fin, h, eq_comm, -Fin.getElem_fin]
  | time sc => cases r.output <;> simp [TimerSource.inputLine]
  | parent q => cases r.output <;> simp [TimerSource.inputLine]

theorem takeClaims_binding (t : Fin 24) (r : TimerRec) (d : Device) (n : Fin 8) :
    (d.takeClaims t r).lines[n].binding =
      if r.output.map OutputAction.line = some n then some t else d.lines[n].binding := by
  unfold Device.takeClaims
  cases r.output with
  | none => cases r.source <;> simp
  | some a =>
    cases r.source <;> by_cases h : n = a.line <;> simp [getElem_set_fin, h, eq_comm, -Fin.getElem_fin]

theorem takeClaims_role (t : Fin 24) (r : TimerRec) (d : Device) (n : Fin 8) :
    (d.takeClaims t r).inputs[n].role =
      if r.source.inputLine = some n then .count t else d.inputs[n].role := by
  unfold Device.takeClaims
  cases r.source with
  | input m e =>
    cases r.output <;> by_cases h : n = m <;>
      simp [TimerSource.inputLine, getElem_set_fin, h, eq_comm, -Fin.getElem_fin]
  | time sc => cases r.output <;> simp [TimerSource.inputLine]
  | parent q => cases r.output <;> simp [TimerSource.inputLine]

theorem releaseCheckin_role (r : WatchRec) (d : Device) (n : Fin 8) :
    (d.releaseCheckin r).inputs[n].role =
      if r.source.inputLine = some n then .none else d.inputs[n].role := by
  unfold Device.releaseCheckin
  cases r.source with
  | line m a =>
    by_cases h : n = m <;> simp [WatchSource.inputLine, getElem_set_fin, h, eq_comm, -Fin.getElem_fin]
  | link => simp [WatchSource.inputLine]

theorem takeCheckin_role (w : Fin 16) (r : WatchRec) (d : Device) (n : Fin 8) :
    (d.takeCheckin w r).inputs[n].role =
      if r.source.inputLine = some n then .checkin w else d.inputs[n].role := by
  unfold Device.takeCheckin
  cases r.source with
  | line m a =>
    by_cases h : n = m <;> simp [WatchSource.inputLine, getElem_set_fin, h, eq_comm, -Fin.getElem_fin]
  | link => simp [WatchSource.inputLine]

theorem forgetTimer_binding (t : Fin 24) (d : Device) (n : Fin 8) :
    (d.forgetTimer t).lines[n].binding = if d.boundLine t = some n then none else d.lines[n].binding := by
  unfold Device.forgetTimer Device.boundLine
  split
  · next h => rw [h, releaseClaims_binding]; rfl
  · next h => simp [h, -Fin.getElem_fin]

theorem forgetTimer_role (t : Fin 24) (d : Device) (n : Fin 8) :
    (d.forgetTimer t).inputs[n].role = if d.countLine t = some n then .none else d.inputs[n].role := by
  unfold Device.forgetTimer Device.countLine
  split
  · next h => rw [h, releaseClaims_role]; rfl
  · next h => simp [h, -Fin.getElem_fin]

theorem forgetWatch_role (w : Fin 16) (d : Device) (n : Fin 8) :
    (d.forgetWatch w).inputs[n].role = if d.checkinLine w = some n then .none else d.inputs[n].role := by
  unfold Device.forgetWatch Device.checkinLine
  split
  · next h => rw [h, releaseCheckin_role]; rfl
  · next h => simp [h, -Fin.getElem_fin]

/-- Claims after a redefinition, for outputs, counts and check-ins alike: `holder n` is who holds line n, `mk u` the holder
that claimant u is, `line u` the line that u names. Claimant t gives up its line and takes `new`, which no other
claimant holds. -/
theorem claims_redefine {α β : Type} [DecidableEq α] {holder : Fin 8 → β} {mk : α → β} {line : α → Option (Fin 8)}
    (hmk : Function.Injective mk) {free : β} (hfree : ∀ u, free ≠ mk u)
    (h : ∀ n u, holder n = mk u ↔ line u = some n) {t : α} {new : Option (Fin 8)}
    (hnew : ∀ n, new = some n → ∀ u, holder n = mk u → u = t) (n : Fin 8) (u : α) :
    (if new = some n then mk t else if line t = some n then free else holder n) = mk u ↔
      (if u = t then new else line u) = some n := by
  by_cases hn : new = some n
  · rw [if_pos hn, hmk.eq_iff]
    by_cases hu : u = t
    · simp [hu, hn]
    · simp only [hu, if_false, Ne.symm hu, false_iff]
      exact fun hl => hu (hnew n hn u ((h n u).mpr hl))
  · rw [if_neg hn]
    by_cases ht : line t = some n
    · rw [if_pos ht]
      have hheld := (h n t).mpr ht
      by_cases hu : u = t
      · simp [hu, hn, hfree]
      · simp only [hfree, hu, if_false, false_iff, ← h]
        exact fun hc => hu (hmk (hc.symm.trans hheld))
    · rw [if_neg ht, h]
      by_cases hu : u = t
      · simp [hu, hn, ht]
      · simp [hu]

/-- The checks of a definition that passed: its output line is bound to no other timer, its input line is free or its
own (R26). -/
theorem claims_of_timerDefineCheck {d : Device} {t : Fin 24} {r : TimerRec} (h : d.timerDefineCheck t r = .ok) :
    d.boundElsewhere t r = false ∧ d.countLineTaken t r = false := by
  unfold Device.timerDefineCheck at h
  split at h
  · cases h
  · split at h
    · cases h
    · next hb =>
      split at h
      · cases h
      · next hl => exact ⟨by simpa using hb, by simpa using hl⟩

theorem binding_of_not_boundElsewhere {d : Device} {t : Fin 24} {r : TimerRec} (h : d.boundElsewhere t r = false)
    {n : Fin 8} (hn : r.output.map OutputAction.line = some n) (u : Fin 24) (hu : d.lines[n].binding = some u) :
    u = t := by
  obtain ⟨a, ha, rfl⟩ := Option.map_eq_some_iff.mp hn
  simpa [Device.boundElsewhere, ha, hu, -Fin.getElem_fin] using h

theorem role_of_not_countLineTaken {d : Device} {t : Fin 24} {r : TimerRec} (h : d.countLineTaken t r = false)
    {n : Fin 8} (hn : r.source.inputLine = some n) : d.inputs[n].role = .none ∨ d.inputs[n].role = .count t := by
  obtain ⟨e, he⟩ := timerSource_inputLine_eq_some.mp hn
  simp only [Device.countLineTaken, he, Bool.and_eq_false_iff, bne_eq_false_iff_eq] at h
  exact h

theorem role_of_not_checkinLineTaken {d : Device} {w : Fin 16} {r : WatchRec} (h : d.checkinLineTaken w r = false)
    {n : Fin 8} (hn : r.source.inputLine = some n) : d.inputs[n].role = .none ∨ d.inputs[n].role = .checkin w := by
  obtain ⟨e, he⟩ := watchSource_inputLine_eq_some.mp hn
  simp only [Device.checkinLineTaken, he, Bool.and_eq_false_iff, bne_eq_false_iff_eq] at h
  exact h

theorem defineTimer_binding (t : Fin 24) (r : TimerRec) (d : Device) (n : Fin 8) :
    (d.defineTimer t r).lines[n].binding =
      if r.output.map OutputAction.line = some n then some t
      else if d.boundLine t = some n then none else d.lines[n].binding := by
  rw [Device.defineTimer_eq, takeClaims_binding, Device.setTimer_lines, forgetTimer_binding]

theorem defineTimer_role (t : Fin 24) (r : TimerRec) (d : Device) (n : Fin 8) :
    (d.defineTimer t r).inputs[n].role =
      if r.source.inputLine = some n then .count t
      else if d.countLine t = some n then .none else d.inputs[n].role := by
  rw [Device.defineTimer_eq, takeClaims_role, Device.setTimer_inputs, forgetTimer_role]

theorem defineTimer_timers (t : Fin 24) (r : TimerRec) (d : Device) :
    (d.defineTimer t r).timers = d.timers.set t (some r) := by
  rw [Device.defineTimer_eq, (takeClaims_claimsOnly t r _).timers, Device.setTimer_timers,
    (forgetTimer_claimsOnly t d).timers]

theorem defineTimer_watches (t : Fin 24) (r : TimerRec) (d : Device) : (d.defineTimer t r).watches = d.watches := by
  rw [Device.defineTimer_eq, (takeClaims_claimsOnly t r _).watches, Device.setTimer_watches,
    (forgetTimer_claimsOnly t d).watches]

theorem checkinLine_congr {d d' : Device} (h : d'.watches = d.watches) (w : Fin 16) :
    d'.checkinLine w = d.checkinLine w := by
  rw [Device.checkinLine, h, Device.checkinLine]

theorem role_count_injective : Function.Injective Role.count := fun _ _ h => Role.count.inj h

theorem role_checkin_injective : Function.Injective Role.checkin := fun _ _ h => Role.checkin.inj h

/-- The roles after a timer's redefinition: a role that is no count stands as it stood (R29). -/
theorem role_redefined {d : Device} {t : Fin 24} {new : Option (Fin 8)} (hc : ∀ n : Fin 8, d.countLine t = some n →
    d.inputs[n].role = .count t) (hnew : ∀ n, new = some n → d.inputs[n].role = .none ∨ d.inputs[n].role = .count t)
    {role : Role} (h0 : role ≠ .none) (h1 : ∀ u, role ≠ .count u) (n : Fin 8) :
    (if new = some n then .count t else if d.countLine t = some n then .none else d.inputs[n].role) = role ↔
      d.inputs[n].role = role := by
  split
  · next hn =>
    rcases hnew n hn with h | h
    · simp only [h, h0.symm, (h1 t).symm]
    · rw [h]
  · split
    · next hn => simp only [hc n hn, h0.symm, (h1 t).symm]
    · rfl

theorem defineTimer_claimsKept {d : Device} {t : Fin 24} {r : TimerRec} (hc : d.timerDefineCheck t r = .ok)
    (h : d.claimsKept) : (d.defineTimer t r).claimsKept := by
  obtain ⟨hb, hl⟩ := claims_of_timerDefineCheck hc
  rw [claimsKept_iff] at h ⊢
  obtain ⟨h1, h2, h3, h4⟩ := h
  have hfree : ∀ n : Fin 8, r.source.inputLine = some n →
      d.inputs[n].role = .none ∨ d.inputs[n].role = .count t := fun n hn => role_of_not_countLineTaken hl hn
  have hother : ∀ {role : Role}, role ≠ .none → (∀ u, role ≠ .count u) → ∀ n : Fin 8,
      (d.defineTimer t r).inputs[n].role = role ↔ d.inputs[n].role = role := fun h0 h1 n => by
    rw [defineTimer_role]
    exact role_redefined (fun n => (h2 n t).mpr) hfree h0 h1 n
  refine ⟨fun n u => ?_, fun n u => ?_, fun n w => ?_, fun n u e act hr => ?_⟩
  · rw [defineTimer_binding, boundLine_of_timers (defineTimer_timers t r d)]
    exact claims_redefine (Option.some_injective _) (by simp) h1
      (fun n hn u hu => binding_of_not_boundElsewhere hb hn u hu) n u
  · rw [defineTimer_role, countLine_of_timers (defineTimer_timers t r d)]
    refine claims_redefine role_count_injective (by simp) h2 (fun n hn u hu => ?_) n u
    rcases hfree n hn with h | h <;> rw [h] at hu <;> cases hu
    rfl
  · rw [hother (by simp) (by simp), checkinLine_congr (defineTimer_watches t r d), h3]
  · rw [hother (by simp) (by simp)] at hr
    rw [defineTimer_timers, getElem_set_fin]
    split
    · rfl
    · exact h4 n u e act hr

theorem freeTimer_claimsKept {d : Device} {t : Fin 24} {r : TimerRec} (hr : d.timers[t] = some r)
    (href : d.timerReferenced t = false) (h : d.claimsKept) : ((d.releaseClaims r).setTimer t none).claimsKept := by
  rw [claimsKept_iff] at h ⊢
  obtain ⟨h1, h2, h3, h4⟩ := h
  have hbl : r.output.map OutputAction.line = d.boundLine t := by simp only [Device.boundLine, hr, Option.bind_some]
  have hcl : r.source.inputLine = d.countLine t := by simp only [Device.countLine, hr, Option.bind_some]
  have htimers : ((d.releaseClaims r).setTimer t none).timers = d.timers.set t none := by
    rw [Device.setTimer_timers, (releaseClaims_claimsOnly r d).timers]
  have hrole : ∀ n : Fin 8, ((d.releaseClaims r).setTimer t none).inputs[n].role =
      if none = some n then .count t else if d.countLine t = some n then .none else d.inputs[n].role := fun n => by
    rw [Device.setTimer_inputs, releaseClaims_role, hcl, if_neg (by simp : ¬ none = some n)]
  have hother : ∀ {role : Role}, role ≠ .none → (∀ u, role ≠ .count u) → ∀ n : Fin 8,
      ((d.releaseClaims r).setTimer t none).inputs[n].role = role ↔ d.inputs[n].role = role := fun h0 h1 n => by
    rw [hrole]
    exact role_redefined (fun n => (h2 n t).mpr) (by simp) h0 h1 n
  refine ⟨fun n u => ?_, fun n u => ?_, fun n w => ?_, fun n u e act hrl => ?_⟩
  · rw [boundLine_of_timers htimers, Device.setTimer_lines, releaseClaims_binding, hbl]
    have := claims_redefine (Option.some_injective _) (free := none) (by simp) h1 (t := t) (new := none) (by simp) n u
    rwa [if_neg (by simp)] at this
  · rw [hrole, countLine_of_timers htimers]
    exact claims_redefine role_count_injective (by simp) h2 (by simp) n u
  · rw [hother (by simp) (by simp), h3]
    exact Eq.congr_left (checkinLine_congr (releaseClaims_claimsOnly r d).watches w).symm
  · rw [hother (by simp) (by simp)] at hrl
    rw [htimers, getElem_set_fin]
    split
    · next hu =>
      subst hu
      simp only [Device.timerReferenced, Bool.or_eq_false_iff, List.any_eq_false] at href
      have := href.2 n (List.mem_finRange n)
      rw [hrl] at this
      simp at this
    · exact h4 n u e act hrl

/-- The claims of the timers do not depend on the watches and the roles of check-ins. -/
theorem claimsKept_of_checkin {d d' : Device} (ht : d'.timers = d.timers) (hlines : d'.lines = d.lines)
    (hrole : ∀ {role : Role}, role ≠ .none → (∀ u, role ≠ .checkin u) →
      ∀ n : Fin 8, d'.inputs[n].role = role ↔ d.inputs[n].role = role)
    (hcheckin : ∀ (n : Fin 8) (w : Fin 16), d'.inputs[n].role = .checkin w ↔ d'.checkinLine w = some n)
    (h : d.claimsKept) : d'.claimsKept := by
  rw [claimsKept_iff] at h ⊢
  obtain ⟨h1, h2, -, h4⟩ := h
  refine ⟨fun n t => ?_, fun n t => ?_, hcheckin, fun n t e act hr => ?_⟩
  · rw [Device.boundLine, ht, hlines]
    exact h1 n t
  · rw [hrole (by simp) (by simp), Device.countLine, ht]
    exact h2 n t
  · rw [ht]
    exact h4 n t e act ((hrole (by simp) (by simp) n).mp hr)

/-- The roles after a watch's redefinition: a role that is no check-in stands as it stood (R69). -/
theorem role_rewatched {d : Device} {w : Fin 16} {new : Option (Fin 8)} (hc : ∀ n : Fin 8, d.checkinLine w = some n →
    d.inputs[n].role = .checkin w)
    (hnew : ∀ n, new = some n → d.inputs[n].role = .none ∨ d.inputs[n].role = .checkin w)
    {role : Role} (h0 : role ≠ .none) (h1 : ∀ u, role ≠ .checkin u) (n : Fin 8) :
    (if new = some n then .checkin w else if d.checkinLine w = some n then .none else d.inputs[n].role) = role ↔
      d.inputs[n].role = role := by
  split
  · next hn =>
    rcases hnew n hn with h | h
    · simp only [h, h0.symm, (h1 w).symm]
    · rw [h]
  · split
    · next hn => simp only [hc n hn, h0.symm, (h1 w).symm]
    · rfl

theorem defineWatch_role (w : Fin 16) (r : WatchRec) (d : Device) (n : Fin 8) :
    (d.defineWatch w r).inputs[n].role =
      if r.source.inputLine = some n then .checkin w
      else if d.checkinLine w = some n then .none else d.inputs[n].role := by
  rw [Device.defineWatch_eq, takeCheckin_role, Device.setWatch_inputs, forgetWatch_role]

theorem releaseCheckin_lines (r : WatchRec) (d : Device) : (d.releaseCheckin r).lines = d.lines := by
  unfold Device.releaseCheckin
  cases r.source <;> rfl

theorem takeCheckin_lines (w : Fin 16) (r : WatchRec) (d : Device) : (d.takeCheckin w r).lines = d.lines := by
  unfold Device.takeCheckin
  cases r.source <;> rfl

theorem forgetWatch_lines (w : Fin 16) (d : Device) : (d.forgetWatch w).lines = d.lines := by
  unfold Device.forgetWatch
  split
  · exact releaseCheckin_lines _ d
  · rfl

theorem defineWatch_lines (w : Fin 16) (r : WatchRec) (d : Device) : (d.defineWatch w r).lines = d.lines := by
  rw [Device.defineWatch_eq, takeCheckin_lines, Device.setWatch_lines, forgetWatch_lines]

theorem defineWatch_timers (w : Fin 16) (r : WatchRec) (d : Device) : (d.defineWatch w r).timers = d.timers := by
  rw [Device.defineWatch_eq, (takeCheckin_claimsOnly w r _).timers, Device.setWatch_timers,
    (forgetWatch_claimsOnly w d).timers]

theorem defineWatch_watches (w : Fin 16) (r : WatchRec) (d : Device) :
    (d.defineWatch w r).watches =
      d.watches.set w (some { r with phase := (d.forgetWatch w).sourcePhase r.source }) := by
  rw [Device.defineWatch_eq, (takeCheckin_claimsOnly w r _).watches, Device.setWatch_watches,
    (forgetWatch_claimsOnly w d).watches]

theorem defineWatch_claimsKept {d : Device} {w : Fin 16} {r : WatchRec} (hl : d.checkinLineTaken w r = false)
    (h : d.claimsKept) : (d.defineWatch w r).claimsKept := by
  obtain ⟨-, -, h3, -⟩ := (claimsKept_iff d).mp h
  have hfree : ∀ n : Fin 8, r.source.inputLine = some n →
      d.inputs[n].role = .none ∨ d.inputs[n].role = .checkin w := fun n hn => role_of_not_checkinLineTaken hl hn
  refine claimsKept_of_checkin (defineWatch_timers w r d) (defineWatch_lines w r d) (fun h0 h1 n => ?_)
    (fun n u => ?_) h
  · rw [defineWatch_role]
    exact role_rewatched (fun n => (h3 n w).mpr) hfree h0 h1 n
  · rw [defineWatch_role, checkinLine_of_watches (defineWatch_watches w r d)]
    refine claims_redefine role_checkin_injective (by simp) h3 (fun n hn u hu => ?_) n u
    rcases hfree n hn with h | h <;> rw [h] at hu <;> cases hu
    rfl

theorem freeWatch_lines (w : Fin 16) (r : WatchRec) (d : Device) : (d.freeWatch w r).lines = d.lines :=
  releaseCheckin_lines r (d.removeEntry (.watch w))

theorem freeWatch_claimsKept {d : Device} {w : Fin 16} {r r' : WatchRec} (hr : d.watches[w] = some r')
    (hs : r'.source = r.source) (h : d.claimsKept) : (d.freeWatch w r).claimsKept := by
  obtain ⟨-, -, h3, -⟩ := (claimsKept_iff d).mp h
  have hlegacy := releaseCheckin_claimsOnly r (d.removeEntry (.watch w))
  have hcl : r.source.inputLine = d.checkinLine w := by
    simp only [Device.checkinLine, hr, Option.bind_some, hs]
  have hrole : ∀ n : Fin 8, (d.freeWatch w r).inputs[n].role =
      if none = some n then .checkin w else if d.checkinLine w = some n then .none else d.inputs[n].role :=
    fun n => by
      rw [Device.freeWatch, Device.setWatch_inputs, releaseCheckin_role, hcl, if_neg (by simp : ¬ none = some n)]
      rfl
  refine claimsKept_of_checkin hlegacy.timers (freeWatch_lines w r d) (fun h0 h1 n => ?_) (fun n u => ?_) h
  · rw [hrole]
    exact role_rewatched (fun n => (h3 n w).mpr) (by simp) h0 h1 n
  · have hw : (d.freeWatch w r).watches = d.watches.set w none := by
      rw [Device.freeWatch, Device.setWatch_watches, hlegacy.watches]
      rfl
    rw [hrole, checkinLine_of_watches hw]
    exact claims_redefine role_checkin_injective (by simp) h3 (by simp) n u

theorem setRole_claimsKept {d : Device} {n : Fin 8} {role : Role} (width : Nat) (h : d.inputs[n].role.isClaim = false)
    (hr : role.isClaim = false) (ht : d.roleTargetFree role = false) (hd : d.claimsKept) :
    (d.setInput n { d.inputs[n] with role := role, width := width }).claimsKept := by
  rw [claimsKept_iff] at hd ⊢
  obtain ⟨h1, h2, h3, h4⟩ := hd
  have hrole : ∀ m : Fin 8, (d.setInput n { d.inputs[n] with role := role, width := width }).inputs[m].role =
      if m = n then role else d.inputs[m].role := fun m => by
    rw [Device.setInput_inputs, getElem_set_fin]
    split <;> rfl
  have hclaim : ∀ {x : Role}, x.isClaim = true → ∀ m : Fin 8,
      (d.setInput n { d.inputs[n] with role := role, width := width }).inputs[m].role = x ↔
        d.inputs[m].role = x := fun hx m => by
    rw [hrole]
    split
    · next hm =>
      subst hm
      constructor
      · rintro rfl
        simp [hx] at hr
      · intro hc
        simp [hc, hx, -Fin.getElem_fin] at h
    · rfl
  refine ⟨h1, fun m u => (hclaim rfl m).trans (h2 m u), fun m u => (hclaim rfl m).trans (h3 m u), fun m u e act hx => ?_⟩
  rw [hrole] at hx
  split at hx
  · subst hx
    simpa [Device.roleTargetFree, Option.isNone_eq_false_iff] using ht
  · exact h4 m u e act hx

theorem Act.claimsKept {d d' : Device} (h : Act d d') (hd : d.claimsKept) : d'.claimsKept := by
  cases h with
  | change h => exact h.sameClaims.claimsKept hd
  | settle h => exact (drainPastDue_works _).claimsKept (h.claimsKept hd)
  | defineTimer _ hc => exact defineTimer_claimsKept hc hd
  | freeTimer h _ hr => exact freeTimer_claimsKept h hr hd
  | defineWatch _ _ hl => exact defineWatch_claimsKept hl hd
  | freeWatch h hs => exact freeWatch_claimsKept h hs hd
  | role width h hr ht => exact setRole_claimsKept width h hr ht hd
  | _ => exact (sameClaims_of_tables rfl rfl (fun _ => rfl) fun _ => rfl).claimsKept hd

theorem foldl_insertEntry_sameClaims (l : List Entry) (d : Device) :
    d.SameClaims (l.foldl (fun acc e => acc.insertEntry e.owner e.due e.wall) d) := by
  induction l generalizing d with
  | nil => exact sameClaims_of_tables rfl rfl (fun _ => rfl) fun _ => rfl
  | cons e l ih =>
    have h := ih (d.insertEntry e.owner e.due e.wall)
    exact ⟨h.binding, h.role, h.bound, h.count, h.checkin, h.defined⟩

theorem rekeyEntries_claimsKept {d : Device} (h : d.claimsKept) : d.rekeyEntries.claimsKept :=
  (foldl_insertEntry_sameClaims _ _).claimsKept
    (Device.SameClaims.claimsKept (d := d) (sameClaims_of_tables rfl rfl (fun _ => rfl) fun _ => rfl) h)

theorem InputRec.sample_role (r : InputRec) (level : Level) : (r.sample level).1.role = r.role := by
  unfold InputRec.sample
  split
  · rfl
  · split <;> rfl

theorem Move.claimsKept {d d' : Device} (h : Move d d') (hd : d.claimsKept) : d'.claimsKept := by
  cases h with
  | act h => exact h.claimsKept hd
  | setWall off => exact (drainPastDue_works _).claimsKept (rekeyEntries_claimsKept (d := { d with wallOffset := off }) hd)
  | endPulse n =>
    have hs : d.SameClaims ((d.takeOwner (.pulse n)).endPulse n) :=
      sameClaims_of_tables rfl rfl (forall_binding_setLine d n (by rfl)) fun _ => rfl
    exact hs.claimsKept hd
  | sample n level =>
    have hs : d.SameClaims (d.setInput n (d.inputs[n].sample level).1) :=
      sameClaims_of_tables rfl rfl (fun _ => rfl)
        (forall_getElem_set (p := fun m (i : InputRec) => i.role = d.inputs[m].role) (InputRec.sample_role _ _)
          fun _ => rfl)
    exact hs.claimsKept hd
  | _ => exact (sameClaims_of_tables rfl rfl (fun _ => rfl) fun _ => rfl).claimsKept hd

theorem tick_sameClaims (d : Device) : d.SameClaims d.tick := by
  unfold Device.tick
  split <;> exact sameClaims_of_tables rfl rfl (fun _ => rfl) fun _ => rfl

theorem initial_watch {inputs : Vector InputRec 8} {spd : Level} {f : FaultRecord} {w : Fin 16} {r : WatchRec}
    (h : (Device.initial inputs spd f).watches[w] = some r) : w = 0 ∧ r = WatchRec.linkDefault := by
  have hw : (Device.initial inputs spd f).watches = (Vector.replicate 16 none).set (0 : Fin 16)
    (some WatchRec.linkDefault) := rfl
  rw [hw, getElem_set_fin] at h
  split at h
  · next h0 => exact ⟨h0, (Option.some.inj h).symm⟩
  · simp at h

theorem initial_claimsKept {inputs : Vector InputRec 8} (spd : Level) (f : FaultRecord)
    (hi : ∀ n : Fin 8, inputs[n].role = .none) : (Device.initial inputs spd f).claimsKept := by
  have ht : ∀ t : Fin 24, (Device.initial inputs spd f).timers[t] = none := fun t => by simp [Device.initial]
  have hb : ∀ n : Fin 8, (Device.initial inputs spd f).lines[n].binding = none := fun n => by
    simp [Device.initial, LineRec.default]
  have hr : ∀ n : Fin 8, (Device.initial inputs spd f).inputs[n].role = .none := hi
  refine ⟨fun n t => ?_, fun n t => ?_, fun n w => ?_, fun n t e act h => ?_⟩
  · simp [hb, ht, -Fin.getElem_fin]
  · simp [hr, ht, -Fin.getElem_fin]
  · simp only [hr, reduceCtorEq, false_iff]
    rintro ⟨r, a, hw, hs⟩
    obtain ⟨-, rfl⟩ := initial_watch hw
    cases hs
  · rw [hr] at h
    cases h

theorem Progress.claimsKept {d d' : Device} (h : Progress d d') (hd : d.claimsKept) : d'.claimsKept := by
  cases h with
  | move h => exact h.claimsKept hd
  | tick => exact (tick_sameClaims d).claimsKept hd
  | reset m inputs spd f hi => exact initial_claimsKept spd f hi

end Sys2Proof.Machine
end

section
/-! Pulses and capacities through every step (R1, R114, R126, R174, R176), and with the claims O59. -/

namespace Sys2Proof.Machine

/-! ### Pulses -/

/-- Pulses stand where their entries, lines and widths do. -/
theorem pulsesKept_of_same {d d' : Device} (he : ∀ n, d'.entryOf (.pulse n) = d.entryOf (.pulse n))
    (hl : ∀ n : Fin 8, d'.lines[n].pulseEnd = d.lines[n].pulseEnd)
    (hb : ∀ n : Fin 8, d'.lines[n].binding = none → d.lines[n].binding = none)
    (ht : ∀ (t : Fin 24) r', d'.timers[t] = some r' → ∃ r, d.timers[t] = some r ∧ r'.output = r.output)
    (h : d.pulsesKept) : d'.pulsesKept := by
  obtain ⟨h1, h2, h3⟩ := h
  refine ⟨fun n => by rw [he, hl, h1], fun n hn => by rw [hl, h2 n (hb n hn)], fun t r' a w hr ho hw => ?_⟩
  obtain ⟨r, hr, hor⟩ := ht t r' hr
  exact h3 t r a w hr (hor ▸ ho) hw

theorem timers_output_of_eq {d d' : Device} (h : d'.timers = d.timers) (t : Fin 24) (r' : TimerRec)
    (hr : d'.timers[t] = some r') : ∃ r, d.timers[t] = some r ∧ r'.output = r.output :=
  ⟨r', h ▸ hr, rfl⟩

theorem entryOf_of_deadlines {d d' : Device} (h : d'.deadlines = d.deadlines) (o : Owner) :
    d'.entryOf o = d.entryOf o := by
  rw [Device.entryOf, h, Device.entryOf]

/-- A change of the list alone that touches no PULSE entry. -/
theorem pulsesKept_of_entries {d d' : Device} (he : ∀ n, d'.entryOf (.pulse n) = d.entryOf (.pulse n))
    (hl : d'.lines = d.lines) (ht : d'.timers = d.timers) (h : d.pulsesKept) : d'.pulsesKept :=
  pulsesKept_of_same he (fun n => by rw [hl]) (fun n => by rw [hl]; exact id) (timers_output_of_eq ht) h

theorem setTimer_pulsesKept {d : Device} {t : Fin 24} {r' : Option TimerRec} (h : d.pulsesKept)
    (hw : ∀ r a w, r' = some r → r.output = some a → a.effect = .pulse w → 0 < w) : (d.setTimer t r').pulsesKept := by
  obtain ⟨h1, h2, h3⟩ := h
  refine ⟨h1, h2, fun u r a w hr ho he => ?_⟩
  rw [Device.setTimer_timers, getElem_set_fin] at hr
  split at hr
  · exact hw r a w hr ho he
  · exact h3 u r a w hr ho he

/-- A line's pulse and binding after a write to it. -/
theorem setLine_line (d : Device) (n m : Fin 8) (l : LineRec) :
    (d.setLine n l).lines[m] = if m = n then l else d.lines[m] :=
  getElem_set_fin _ _ _ _

/-- A cancelled pulse has neither entry nor pulse end (R128). -/
theorem restLine_pulsesKept (n : Fin 8) {d : Device} (h : d.pulsesKept) : (d.restLine n).pulsesKept := by
  obtain ⟨h1, h2, h3⟩ := h
  have hline : ∀ m : Fin 8, (d.restLine n).lines[m] =
      if m = n then { d.lines[n] with shadow := .rest, pulseEnd := none } else d.lines[m] := fun m => setLine_line _ _ _ _
  refine ⟨fun m => ?_, fun m hm => ?_, h3⟩
  · rw [hline]
    split
    · next hm =>
      subst hm
      exact congrArg (Option.map Entry.due) (find_removeOwner_self (.pulse m) d.deadlines)
    · next hm =>
      rw [← h1]
      exact congrArg (Option.map Entry.due) (find_removeOwner_of_ne (by simpa using hm) d.deadlines)
  · rw [hline] at hm ⊢
    split at hm <;> rename_i hmn
    · rw [if_pos hmn]
    · rw [if_neg hmn, h2 m hm]

theorem releaseBinding_pulsesKept (n : Fin 8) {d : Device} (h : d.pulsesKept) : (d.releaseBinding n).pulsesKept := by
  obtain ⟨h1, h2, h3⟩ := restLine_pulsesKept n h
  have hnone : (d.restLine n).lines[n].pulseEnd = none :=
    congrArg LineRec.pulseEnd ((setLine_line _ n n _).trans (if_pos rfl))
  have hline : ∀ m : Fin 8, (d.releaseBinding n).lines[m] =
      if m = n then { (d.restLine n).lines[n] with binding := none } else (d.restLine n).lines[m] :=
    fun m => setLine_line _ _ _ _
  have hpulse : ∀ m : Fin 8, (d.releaseBinding n).lines[m].pulseEnd = (d.restLine n).lines[m].pulseEnd := fun m => by
    rw [hline]
    split
    · next hm => rw [hm]
    · rfl
  refine ⟨fun m => by rw [hpulse]; exact h1 m, fun m hm => ?_, h3⟩
  rw [hpulse]
  by_cases hmn : m = n
  · rw [hmn, hnone]
  · rw [hline, if_neg hmn] at hm
    exact h2 m hm

/-- A pulse's entry and pulse end fall together, at the end of elapsed time too (R1, R53, R126). -/
theorem newEntry_pulse_due {d : Device} (he : d.elapsed ≤ Config.maxElapsed) (l : List Entry) (o : Owner) {width : Nat}
    (hw : 0 < width) :
    (d.newEntry l o (d.elapsed + width) none).due = ((min (d.elapsed + width) Config.maxElapsed : Nat) : Int) := by
  obtain ⟨h1, h2, h3⟩ := newEntry_recorded d l o (d.elapsed + width) none
  simp only [clipDue, Config.maxElapsed] at *
  rcases lt_or_ge (d.elapsed : Int) (min ((d.elapsed : Int) + width) (281474976710655 : Nat)) with hd | hd
  · rw [(h1 hd).1]
    omega
  · by_cases ho : o ∈ d.handed
    · rw [(h3 hd ho).1]
      omega
    · rw [(h2 hd ho).1]
      omega

theorem startPulse_pulsesKept {d : Device} {n : Fin 8} {width : Nat} (hb : d.lines[n].binding ≠ none)
    (hw : 0 < width) (he : d.elapsed ≤ Config.maxElapsed) (h : d.pulsesKept) : (d.startPulse n width).pulsesKept := by
  obtain ⟨h1, h2, h3⟩ := h
  have hline : ∀ m : Fin 8, (d.startPulse n width).lines[m] =
      if m = n then { d.lines[n] with
        shadow := .active
        pulseEnd := some (min (d.elapsed + width) Config.maxElapsed) } else d.lines[m] := fun m => setLine_line _ _ _ _
  refine ⟨fun m => ?_, fun m hm => ?_, h3⟩
  · unfold Device.startPulse at hline ⊢
    rw [hline]
    split
    · next hm =>
      subst hm
      rw [Device.entryOf_insertEntry_self, Option.map_some, Option.map_some,
        ← newEntry_pulse_due he (removeOwner (.pulse m) d.deadlines) (.pulse m) hw]
      rfl
    · next hm =>
      rw [Device.entryOf_insertEntry_of_ne (by simpa using hm), ← h1]
      rfl
  · rw [hline] at hm ⊢
    split at hm <;> rename_i hmn
    · exact absurd hm hb
    · rw [if_neg hmn, h2 m hm]

/-- What the pulses need to be kept: the claims with them, and the bound of elapsed time (R1, R123). -/
structure Device.pulseSound (d : Device) : Prop where
  claims : d.claimsKept
  pulses : d.pulsesKept
  elapsed : d.elapsed ≤ Config.maxElapsed

theorem insertEntry_pulsesKept {d : Device} {o : Owner} (ho : ∀ n, o ≠ .pulse n) (due : Int) (wall : Option Nat)
    (h : d.pulsesKept) : (d.insertEntry o due wall).pulsesKept :=
  pulsesKept_of_entries (fun n => Device.entryOf_insertEntry_of_ne (ho n).symm due wall d) rfl rfl h

theorem removeEntry_pulsesKept {d : Device} {o : Owner} (ho : ∀ n, o ≠ .pulse n) (h : d.pulsesKept) :
    (d.removeEntry o).pulsesKept :=
  pulsesKept_of_entries (fun n => Device.entryOf_removeEntry_of_ne (ho n).symm d) rfl rfl h

theorem takeOwner_pulsesKept {d : Device} {o : Owner} (ho : ∀ n, o ≠ .pulse n) (h : d.pulsesKept) :
    (d.takeOwner o).pulsesKept :=
  pulsesKept_of_entries (fun n => Device.entryOf_takeOwner_of_ne (ho n).symm d) rfl rfl h

theorem TimerChange.pulsesKept {d d' : Device} (h : TimerChange d d') (hd : d.pulseSound) : d'.pulsesKept := by
  obtain ⟨hc, hp, he⟩ := hd
  cases h with
  | record h ho _ =>
    refine setTimer_pulsesKept hp fun r a w hr hor hw => ?_
    obtain rfl := Option.some.inj hr
    exact hp.2.2 _ _ a w h (ho ▸ hor) hw
  | take t => exact takeOwner_pulsesKept (o := .timer t) (fun _ => nofun) hp
  | schedule t due => exact insertEntry_pulsesKept (o := .timer t) (fun _ => nofun) due none hp
  | unschedule t => exact removeEntry_pulsesKept (o := .timer t) (fun _ => nofun) hp
  | @pulse t r a width h ho hw =>
    have hb : d.lines[a.line].binding = some t := (hc.1 a.line t).mpr ⟨r, a, h, ho, rfl⟩
    exact startPulse_pulsesKept (by rw [hb]; simp) (hp.2.2 t r a width h ho hw) he hp
  | rest n => exact restLine_pulsesKept n hp
  | lines v h =>
    exact pulsesKept_of_same (d := d) (fun _ => rfl) (fun n => (h n).2) (fun n hn => (h n).1 ▸ hn)
      (timers_output_of_eq rfl) hp
  | notify => exact pulsesKept_of_entries (d := d) (fun _ => rfl) rfl rfl hp

theorem TimerChange.pulseSound {d d' : Device} (h : TimerChange d d') (hd : d.pulseSound) : d'.pulseSound :=
  ⟨h.sameClaims.claimsKept hd.claims, h.pulsesKept hd, h.sameBase.elapsed ▸ hd.elapsed⟩

theorem TimerWork.pulseSound {d d' : Device} (h : TimerWork d d') (hd : d.pulseSound) : d'.pulseSound := by
  cases h with
  | change h => exact h.pulseSound hd
  | schedule t due wall =>
    exact ⟨hd.claims, insertEntry_pulsesKept (o := .timer t) (fun _ => nofun) due _ hd.pulses, hd.elapsed⟩

theorem TimerWorks.pulseSound {d d' : Device} (h : TimerWorks d d') (hd : d.pulseSound) : d'.pulseSound := by
  induction h with
  | refl => exact hd
  | tail _ h ih => exact h.pulseSound ih

theorem Change.pulsesKept {d d' : Device} (h : Change d d') (hd : d.pulseSound) : d'.pulsesKept := by
  have hp := hd.pulses
  cases h with
  | timer h => exact h.pulsesKept hd
  | take o ho => exact takeOwner_pulsesKept ho hp
  | insert o due ho => exact insertEntry_pulsesKept ho due none hp
  | remove o ho => exact removeEntry_pulsesKept ho hp
  | _ => exact pulsesKept_of_entries (d := d) (fun _ => rfl) rfl rfl hp

theorem releaseClaims_pulsesKept (r : TimerRec) {d : Device} (h : d.pulsesKept) : (d.releaseClaims r).pulsesKept := by
  unfold Device.releaseClaims
  cases r.output with
  | none => cases r.source <;> exact pulsesKept_of_entries (fun _ => rfl) rfl rfl h
  | some a =>
    have := releaseBinding_pulsesKept a.line h
    cases r.source <;> exact pulsesKept_of_entries (fun _ => rfl) rfl rfl this

theorem takeClaims_pulsesKept (t : Fin 24) (r : TimerRec) {d : Device} (h : d.pulsesKept) :
    (d.takeClaims t r).pulsesKept := by
  have hclaims := takeClaims_claimsOnly t r d
  have hpulse : ∀ n : Fin 8, (d.takeClaims t r).lines[n].pulseEnd = d.lines[n].pulseEnd := fun n => by
    unfold Device.takeClaims
    cases r.output with
    | none => cases r.source <;> rfl
    | some a =>
      cases r.source <;>
        exact forall_getElem_set (p := fun m (l : LineRec) => l.pulseEnd = d.lines[m].pulseEnd) rfl (fun _ => rfl) n
  refine pulsesKept_of_same (fun n => entryOf_of_deadlines (takeClaims_deadlines t r d) _) hpulse (fun n hn => ?_)
    (timers_output_of_eq hclaims.timers) h
  rw [takeClaims_binding] at hn
  split at hn
  · cases hn
  · exact hn

/-- A PULSE effect that a frame can state has a width (R24). -/
theorem parseEffect_width {p : List Byte} {i w : Nat} (h : parseEffect p i = some (.pulse w)) : 0 < w := by
  unfold parseEffect at h
  split at h
  · cases h
  · cases h
  · cases h
  · split at h
    · cases h
    · obtain rfl := Effect.pulse.inj (Option.some.inj h)
      omega
  · cases h

theorem parseOutput_width {p : List Byte} {a : OutputAction} {w : Nat} (h : parseOutput p = some (some a))
    (hw : a.effect = .pulse w) : 0 < w := by
  unfold parseOutput at h
  split at h
  · obtain ⟨line, -, h⟩ := Option.bind_eq_some_iff.mp h
    obtain ⟨eff, he, h⟩ := Option.map_eq_some_iff.mp h
    obtain rfl := Option.some.inj h
    exact parseEffect_width (he.trans (congrArg some hw))
  · cases h

theorem parseTimer_width {t : Fin 24} {p : List Byte} {r : TimerRec} (h : parseTimer t p = some r) {a : OutputAction}
    {w : Nat} (ha : r.output = some a) (hw : a.effect = .pulse w) : 0 < w := by
  unfold parseTimer at h
  split at h
  · cases h
  · split at h
    · next output _ _ _ ho _ =>
      obtain ⟨kind, -, rfl⟩ := Option.map_eq_some_iff.mp h
      exact parseOutput_width (ho.trans (congrArg some ha)) hw
    · cases h

theorem Act.pulsesKept {d d' : Device} (h : Act d d') (hd : d.pulseSound) : d'.pulsesKept := by
  have hp := hd.pulses
  cases h with
  | change h => exact h.pulsesKept hd
  | settle h => exact ((drainPastDue_works _).pulseSound (h.pulseSound hd)).pulses
  | @defineTimer t _ r hparse =>
    have hf : (d.forgetTimer t).pulsesKept := by
      unfold Device.forgetTimer
      split
      · exact releaseClaims_pulsesKept _ hp
      · exact hp
    refine takeClaims_pulsesKept t r (setTimer_pulsesKept hf fun r' a w hr ho hw => ?_)
    obtain rfl := Option.some.inj hr
    exact parseTimer_width hparse ho hw
  | freeTimer => exact setTimer_pulsesKept (releaseClaims_pulsesKept _ hp) fun _ _ _ hr => by cases hr
  | @defineWatch w _ r =>
    exact pulsesKept_of_entries (fun n => entryOf_of_deadlines (defineWatch_deadlines w r d) _)
      (defineWatch_lines w r d) (defineWatch_timers w r d) hp
  | @freeWatch w r =>
    have he : ∀ n, (d.freeWatch w r).entryOf (.pulse n) = d.entryOf (.pulse n) := fun n => by
      rw [Device.entryOf, freeWatch_deadlines]
      exact find_removeOwner_of_ne (o := .watch w) (by simp) _
    exact pulsesKept_of_entries he (freeWatch_lines w r d)
      (releaseCheckin_claimsOnly r (d.removeEntry (.watch w))).timers hp
  | _ => exact pulsesKept_of_entries (d := d) (fun _ => rfl) rfl rfl hp

/-! ### The entries that a change of wall time leaves -/

/-- With one entry an owner, the owner's entry is the one in the list. -/
theorem find_owner_eq_some {l : List Entry} (h : (l.map Entry.owner).Nodup) {o : Owner} {e : Entry} :
    l.find? (fun e => e.owner == o) = some e ↔ e ∈ l ∧ e.owner = o := by
  refine ⟨fun hf => ⟨List.mem_of_find?_eq_some hf, by simpa using List.find?_some hf⟩, fun ⟨he, ho⟩ => ?_⟩
  cases hf : l.find? (fun e => e.owner == o) with
  | none =>
    rw [List.find?_eq_none] at hf
    exact absurd (by simpa using ho) (hf e he)
  | some f =>
    have hfo : f.owner = o := by simpa using List.find?_some hf
    rw [List.inj_on_of_nodup_map h (List.mem_of_find?_eq_some hf) he (hfo.trans ho.symm)]

theorem foldl_insertEntry_entryOf {o : Owner} {l : List Entry} (hl : ∀ e ∈ l, e.owner ≠ o) (d : Device) :
    (l.foldl (fun acc e => acc.insertEntry e.owner e.due e.wall) d).entryOf o = d.entryOf o := by
  induction l generalizing d with
  | nil => rfl
  | cons e l ih =>
    rw [List.foldl_cons, ih fun f hf => hl f (by simp [hf])]
    exact Device.entryOf_insertEntry_of_ne (hl e (by simp)).symm _ _ _

/-- Re-keying moves the entries of timers alone (R5). -/
theorem rekeyEntries_entryOf {d : Device} (ho : d.listOrdered) (hs : d.settled) {o : Owner} (hto : ∀ t, o ≠ .timer t) :
    d.rekeyEntries.entryOf o = d.entryOf o := by
  have hwall : ∀ e ∈ d.deadlines, e.owner = o → e.wall = none := fun e he heo => by
    by_contra hc
    obtain ⟨t, ht⟩ := hs.2 e he (Option.isSome_iff_ne_none.mpr hc)
    exact hto t (heo.symm.trans ht)
  have hdelayed : ∀ e ∈ (d.deadlines.map (Entry.rekey d.wallOffset d.elapsed)).filter d.delayedEntry, e.owner ≠ o :=
    fun e he heo => by
      obtain ⟨hm, hd⟩ := List.mem_filter.mp he
      simp only [Device.delayedEntry, Bool.and_eq_true] at hd
      obtain ⟨t, ht⟩ := wall_owner_rekey hs hm (wall_of_pastDue_rekey hs hm hd.1)
      exact hto t (heo.symm.trans ht)
  rw [Device.rekeyEntries, foldl_insertEntry_entryOf hdelayed]
  have hperm := sortEntries_perm
    ((d.deadlines.map (Entry.rekey d.wallOffset d.elapsed)).filter fun e => !d.delayedEntry e)
  have hnodup : ((d.deadlines.map (Entry.rekey d.wallOffset d.elapsed)).map Entry.owner).Nodup := by
    simpa [Function.comp_def] using ho.2.1
  have hkept := (hperm.map Entry.owner).nodup_iff.mpr (hnodup.sublist (List.filter_sublist.map _))
  refine Option.ext fun e => (find_owner_eq_some hkept).trans (Iff.trans ?_ (find_owner_eq_some ho.2.1).symm)
  refine and_congr_left fun heo => ?_
  rw [hperm.mem_iff, List.mem_filter, List.mem_map]
  constructor
  · rintro ⟨⟨f, hf, rfl⟩, -⟩
    rw [Entry.rekey_of_none (hwall f hf (by simpa using heo))]
    exact hf
  · intro he
    refine ⟨⟨e, he, Entry.rekey_of_none (hwall e he heo) _ _⟩, ?_⟩
    simp [Device.delayedEntry, hs.1 e he]

theorem foldl_insertEntry_lines_timers (l : List Entry) (d : Device) :
    (l.foldl (fun acc e => acc.insertEntry e.owner e.due e.wall) d).lines = d.lines ∧
      (l.foldl (fun acc e => acc.insertEntry e.owner e.due e.wall) d).timers = d.timers := by
  induction l generalizing d with
  | nil => exact ⟨rfl, rfl⟩
  | cons e l ih => exact ih (d.insertEntry e.owner e.due e.wall)

theorem rekeyEntries_pulseSound {d : Device} (ho : d.listOrdered) (hs : d.settled) (h : d.pulseSound) :
    d.rekeyEntries.pulseSound := by
  have hc := foldl_insertEntry_lines_timers
    ((d.deadlines.map (Entry.rekey d.wallOffset d.elapsed)).filter d.delayedEntry)
    { d with deadlines := sortEntries ((d.deadlines.map (Entry.rekey d.wallOffset d.elapsed)).filter
        fun e => !d.delayedEntry e) }
  exact ⟨rekeyEntries_claimsKept h.claims,
    pulsesKept_of_entries (fun n => rekeyEntries_entryOf ho hs nofun) hc.1 hc.2 h.pulses,
    (rekeyEntries_sameBase d).elapsed ▸ h.elapsed⟩

theorem Move.pulsesKept {d d' : Device} (h : Move d d') (ho : d.listOrdered) (hs : d.settled) (hd : d.pulseSound) :
    d'.pulsesKept := by
  have hp := hd.pulses
  cases h with
  | act h => exact h.pulsesKept hd
  | setWall off =>
    have hoff : ({ d with wallOffset := off } : Device).pulseSound := ⟨hd.claims, hp, hd.elapsed⟩
    exact ((drainPastDue_works _).pulseSound (rekeyEntries_pulseSound (d := { d with wallOffset := off }) ho hs hoff)).pulses
  | endPulse n => exact pulsesKept_of_entries (d := d.restLine n) (fun _ => rfl) rfl rfl (restLine_pulsesKept n hp)
  | _ => exact pulsesKept_of_entries (d := d) (fun _ => rfl) rfl rfl hp

theorem tick_pulsesKept {d : Device} (h : d.pulsesKept) : d.tick.pulsesKept := by
  unfold Device.tick
  split <;> exact pulsesKept_of_entries (d := d) (fun _ => rfl) rfl rfl h

theorem initial_pulsesKept (inputs : Vector InputRec 8) (spd : Level) (f : FaultRecord) :
    (Device.initial inputs spd f).pulsesKept := by
  refine ⟨fun n => ?_, fun n _ => ?_, fun t r a w hr => ?_⟩
  · simp [Device.initial, LineRec.default, Device.entryOf]
  · simp [Device.initial, LineRec.default]
  · simp [Device.initial] at hr

/-! ### Capacities -/

/-- An append keeps the pending loss a 16-bit value (R155 to R157). -/
theorem append_pendingLoss_le (q : NoticeQueue) (body : NoticeBody) (instant : Nat) :
    (q.append body instant).pendingLoss ≤ 65535 := by
  have hstop : ∀ n k, addStop16 n k ≤ 65535 := fun n k => Nat.min_le_right _ _
  unfold NoticeQueue.append
  split
  · exact Nat.zero_le _
  · split
    · exact Nat.zero_le _
    · exact hstop _ _

/-- Capacities depend on these fields alone. -/
theorem withinCapacity_of {d d' : Device} (h : d.withinCapacity)
    (ht : d.elapsed ≤ 281474976710655 → d'.elapsed ≤ 281474976710655)
    (hq : d.link.receiveQueue.length ≤ 4 → d'.link.receiveQueue.length ≤ 4)
    (hr : d.link.replyQueue.length ≤ 4 → d'.link.replyQueue.length ≤ 4)
    (hf : d.fault.entries.length ≤ 4 → d'.fault.entries.length ≤ 4)
    (hg : d.fault.generation < 65536 → d'.fault.generation < 65536)
    (hn : d.notices.pendingLoss ≤ 65535 → d'.notices.pendingLoss ≤ 65535) :
    d'.withinCapacity := by
  obtain ⟨h1, h2, h3, h4, h5, h6⟩ := h
  exact ⟨ht h1, hq h2, hr h3, hf h4, hg h5, hn h6⟩

theorem withinCapacity_of_eq {d d' : Device} (ht : d'.elapsed = d.elapsed) (hl : d'.link = d.link)
    (hf : d'.fault = d.fault) (hn : d'.notices = d.notices) (h : d.withinCapacity) : d'.withinCapacity := by
  unfold Device.withinCapacity at *
  rwa [ht, hl, hf, hn]

theorem Device.ClaimsOnly.withinCapacity {d d' : Device} (h : d.ClaimsOnly d') (hd : d.withinCapacity) :
    d'.withinCapacity :=
  withinCapacity_of_eq h.elapsed h.link h.fault h.notices hd

theorem TimerChange.withinCapacity {d d' : Device} (h : TimerChange d d') (hd : d.withinCapacity) :
    d'.withinCapacity := by
  cases h with
  | notify body => exact withinCapacity_of hd id id id id id (fun _ => append_pendingLoss_le _ body d.elapsed)
  | _ => exact hd

theorem TimerWorks.withinCapacity {d d' : Device} (h : TimerWorks d d') (hd : d.withinCapacity) :
    d'.withinCapacity := by
  induction h with
  | refl => exact hd
  | tail _ h ih =>
    cases h with
    | change h => exact h.withinCapacity ih
    | schedule => exact ih

theorem Change.withinCapacity {d d' : Device} (h : Change d d') (hd : d.withinCapacity) : d'.withinCapacity := by
  cases h with
  | timer h => exact h.withinCapacity hd
  | fault f he hg => exact withinCapacity_of hd id id id he (fun h => hg ▸ h) id
  | _ => exact hd

theorem Act.withinCapacity {d d' : Device} (h : Act d d') (hd : d.withinCapacity) : d'.withinCapacity := by
  cases h with
  | change h => exact h.withinCapacity hd
  | settle h => exact (drainPastDue_works _).withinCapacity (h.withinCapacity hd)
  | @defineTimer t _ r =>
    exact (takeClaims_claimsOnly t r _).withinCapacity
      ((forgetTimer_claimsOnly t d).withinCapacity hd : (d.forgetTimer t).withinCapacity)
  | freeTimer => exact (releaseClaims_claimsOnly _ d).withinCapacity hd
  | @defineWatch w _ r =>
    exact (takeCheckin_claimsOnly w r _).withinCapacity
      ((forgetWatch_claimsOnly w d).withinCapacity hd : (d.forgetWatch w).withinCapacity)
  | @freeWatch w r => exact (releaseCheckin_claimsOnly r (d.removeEntry (.watch w))).withinCapacity hd
  | role => exact hd
  | link l hq hr => exact withinCapacity_of hd id hq.trans hr.trans id id id
  | notices q hq => exact withinCapacity_of hd id id id id id (fun h => hq ▸ h)

theorem foldl_insertEntry_withinCapacity (l : List Entry) {d : Device} (h : d.withinCapacity) :
    (l.foldl (fun acc e => acc.insertEntry e.owner e.due e.wall) d).withinCapacity := by
  induction l generalizing d with
  | nil => exact h
  | cons e l ih => exact ih h

theorem Move.withinCapacity {d d' : Device} (h : Move d d') (hd : d.withinCapacity) : d'.withinCapacity := by
  cases h with
  | act h => exact h.withinCapacity hd
  | setWall off => exact (drainPastDue_works _).withinCapacity (foldl_insertEntry_withinCapacity _ hd)
  | receive f h =>
    refine withinCapacity_of hd id (fun _ => ?_) id id id id
    rw [List.length_append]
    exact h
  | reply f h =>
    refine withinCapacity_of hd id id (fun _ => ?_) id id id
    rw [Device.queueReply_link, List.length_append]
    exact h
  | _ => exact hd

theorem tick_withinCapacity {d : Device} (h : d.withinCapacity) : d.tick.withinCapacity := by
  unfold Device.tick
  split
  · next ht => exact withinCapacity_of h (fun _ => ht) id id id id id
  · exact h

theorem Progress.withinCapacity {d d' : Device} (h : Progress d d') (hd : d.withinCapacity) : d'.withinCapacity := by
  cases h with
  | move h => exact h.withinCapacity hd
  | tick => exact tick_withinCapacity hd
  | reset m inputs spd f _ he hg =>
    exact withinCapacity_of hd (fun _ => Nat.zero_le _) (fun _ => Nat.zero_le _) (fun _ => Nat.zero_le _) he hg
      fun _ => Nat.zero_le _

/-! ### All of them -/

/-- The invariants that the claims and pulses are kept with. -/
structure Device.consistent (d : Device) : Prop where
  ordered : d.listOrdered
  settled : d.settled
  claims : d.claimsKept
  pulses : d.pulsesKept
  capacity : d.withinCapacity

theorem Progress.pulsesKept {d d' : Device} (h : Progress d d') (hd : d.consistent) : d'.pulsesKept := by
  cases h with
  | move h => exact h.pulsesKept hd.ordered hd.settled ⟨hd.claims, hd.pulses, hd.capacity.1⟩
  | tick => exact tick_pulsesKept hd.pulses
  | reset m inputs spd f => exact initial_pulsesKept inputs spd f

theorem Progress.consistent {d d' : Device} (h : Progress d d') (hd : d.consistent) : d'.consistent :=
  ⟨h.listOrdered hd.ordered, h.settled hd.settled, h.claimsKept hd.claims, h.pulsesKept hd,
    h.withinCapacity hd.capacity⟩

/-- Settles O59: every progress that makes up a step keeps the claims, the pulses with them, and the capacities. -/
theorem claimsStayConsistent : Obligations.ClaimsStayConsistent := by
  unfold Obligations.ClaimsStayConsistent
  intro s t ho hs hc hp hcap h
  have ht := step_keeps (fun _ _ h => h.consistent) ⟨ho, hs, hc, hp, hcap⟩ h
  exact ⟨ht.claims, ht.pulses, ht.capacity⟩

/-! ### Time -/

/-- No move changes elapsed time (R1). -/
theorem Moves.elapsed {d d' : Device} (h : Moves d d') : d'.elapsed = d.elapsed := by
  induction h with
  | refl => rfl
  | tail _ h ih =>
    refine Eq.trans ?_ ih
    cases h with
    | act h => exact h.sameTime_wallOffset.1.elapsed
    | setWall off => exact (setWall_sameTime off _).elapsed
    | _ => rfl

/-- A frame that reaches the dispatcher with none waiting: discarded or left waiting, or taken at once (R174, R176). -/
theorem deliverFrame_cases (f : Frame) {d : Device} (hq : d.link.receiveQueue = []) :
    (∃ l : LinkPort, d.deliverFrame f = { d with link := l }) ∨
    (d.link.replyQueue.length < 4 ∧ d.link.restartPending = false ∧
      d.deliverFrame f = { (answer f d).1 with link := (answer f d).1.link.answered (answer f d).2 }) := by
  by_cases hp : d.link.restartPending = true
  · exact .inl ⟨d.link, by rw [Device.deliverFrame, if_pos hp]⟩
  · have hp : d.link.restartPending = false := by simpa using hp
    by_cases hr : d.link.replyQueue.length < 4
    · exact .inr ⟨hr, hp, Device.deliverFrame_ready hq hr hp f⟩
    · refine .inl ⟨{ d.link with receiveQueue := [f] }, ?_⟩
      have hlen : d.link.receiveQueue.length < Config.receiveCapacity := by simp [hq, Config.receiveCapacity]
      rw [Device.deliverFrame, if_neg (by simp [hp]), if_pos hlen, hq, Device.dispatch]
      simp [dispatchFrames, Config.replyCapacity, hr]

/-- A request other than TIME_SET leaves the wall offset (R4). -/
theorem answer_wallOffset {r : Request} (h : r ≠ .timeSet) (tag : Byte) (p : List Byte) (d : Device) :
    (answer (r.frame tag p) d).1.wallOffset = d.wallOffset := by
  simp only [answer, Request.frame, Request.ofCode_code]
  exact (takeRequest_acts p d h).wallOffset

/-- Settles O60: a request command is moves, none of which touches elapsed time; with no frame waiting it takes at most
the one request, whose acts leave the wall offset unless it is TIME_SET. -/
theorem requestsLeaveElapsedTime : Obligations.RequestsLeaveElapsedTime := by
  unfold Obligations.RequestsLeaveElapsedTime
  intro s t r tag p h
  rw [exec_command] at h
  cases hm : s.mode with
  | held cause =>
    rw [whileRunning_held hm] at h
    obtain rfl := Host.Outcome.next.inj h
    exact ⟨rfl, fun _ _ => rfl⟩
  | running =>
    rw [whileRunning_running hm] at h
    obtain rfl := Host.Outcome.next.inj h
    refine ⟨(deliverFrame_moves _ s.toDevice).elapsed, fun hr hq => ?_⟩
    show (s.toDevice.deliverFrame (r.frame tag p)).wallOffset = s.wallOffset
    rcases deliverFrame_cases (r.frame tag p) hq with ⟨l, hl⟩ | ⟨-, -, hl⟩ <;> rw [hl]
    exact answer_wallOffset hr tag p s.toDevice

/-! ### SCHEDULE_QUERY -/

/-- Settles O15: a request taken at once answers what `takeScheduleQuery` gives. -/
theorem scheduleQueryReportsWindow : Obligations.ScheduleQueryReportsWindow := by
  unfold Obligations.ScheduleQueryReportsWindow
  intro s tag start h
  refine ⟨fun p hp => ?_, ?_⟩
  · refine (exec_command_ready .scheduleQuery tag p h).trans ?_
    simp only [takeRequest, takeScheduleQuery, if_pos hp]
    rfl
  · refine (exec_command_ready .scheduleQuery tag [start] h).trans ?_
    simp only [takeRequest, takeScheduleQuery, List.length_singleton, ne_eq, not_true_eq_false, if_false,
      byteAt_cons_zero, byte_toNat]
    rfl

end Sys2Proof.Machine
end

section
/-! The resets (R17, R115, R167), what the device does of itself, and the state right after reset. -/

namespace Sys2Proof.Machine

/-! ### The device right after a reset -/

/-- With the transmitter free and nothing else to send, a lone UNSENT notice goes first, with the resend deadline
(R158, R159). -/
theorem pump_lone_notice {d : Device} {n : Notice} (ht : d.link.transmitting = none) (hr : d.link.replyQueue = [])
    (hq : d.link.receiveQueue = []) (hp : d.link.restartPending = false) (hn : d.notices.queue = [n])
    (hu : n.state = .unsent) (he : d.entryOf .resend = none) :
    d.pump =
      { d with
        notices := { d.notices with
          queue := [n.firstSent d.notices.nextSeq], nextSeq := (d.notices.nextSeq + 1) % 256 }
        deadlines := (d.insertEntry .resend (d.elapsed + 250) none).deadlines
        link := { d.link with transmitting := some (n.firstSent d.notices.nextSeq).frame } } := by
  have hsent : n.isSent = false := by rw [Notice.isSent, hu]
  have hmarked : n.isMarked = false := by rw [Notice.isMarked, hu]
  have hsend : d.sendNotice =
      { d with
        notices := { d.notices with
          queue := [n.firstSent d.notices.nextSeq], nextSeq := (d.notices.nextSeq + 1) % 256 }
        deadlines := (d.insertEntry .resend (d.elapsed + 250) none).deadlines
        link := { d.link with transmitting := some (n.firstSent d.notices.nextSeq).frame } } := by
    simp only [Device.sendNotice, hn, updateFirst, hmarked, hsent, NoticeQueue.sentCount, Config.sendWindow,
      List.countP_cons, List.countP_nil, Bool.false_eq_true, if_false, Bool.not_false, if_true, Nat.add_zero,
      Nat.ofNat_pos]
    simp only [Device.entryOf] at he ⊢
    simp only [he, Option.isSome_none, Bool.false_eq_true, if_false]
    rfl
  have harb : d.arbitrate = d.sendNotice := by
    rw [Device.arbitrate, ht, hr]
    simp only [hp, Bool.false_eq_true, if_false]
  rw [Device.pump, harb, hsend, dispatch_nil (by exact hq)]

theorem initial_watches_eq :
    ((Vector.replicate 16 none).set 0 (some WatchRec.linkDefault) : Vector (Option WatchRec) 16) =
      Vector.ofFn fun w : Fin 16 => if w = 0 then some WatchRec.linkDefault else none := by
  decide +kernel

/-- The notice queue with a reset's first notice (R155, R167). -/
theorem append_empty (body : NoticeBody) :
    NoticeQueue.append { queue := [], pendingLoss := 0, nextSeq := 0 } body 0 =
      { queue := [{ body := body, instant := 0, lostBefore := 0, state := .unsent, attempts := 0 }]
        pendingLoss := 0, nextSeq := 0 } := rfl

theorem initial_insertResend (inputs : Vector InputRec 8) (spd : Level) (f : FaultRecord) (body : NoticeBody) :
    (((Device.initial inputs spd f).notify body).insertEntry .resend
      (((Device.initial inputs spd f).notify body).elapsed + 250) none).deadlines =
      [{ owner := .resend, due := 250, wall := none, pos := 2, pastDue := false },
       { owner := .watch 0, due := 4000, wall := none, pos := 1, pastDue := false }] := by
  simp [Device.insertEntry, Device.newEntry, Device.initial, removeOwner, freshPos, placeEntry, Entry.before, clipDue,
    Config.maxElapsed]

/-- The frame of a reset's STARTED notice (Section 11). -/
theorem started_frame (cause : ResetCause) (generation : Nat) :
    Notice.frame { body := .started cause generation, instant := 0, lostBefore := 0, state := .sent 0 false,
                   attempts := 1 } =
      { kind := 0x60, tag := 0x00,
        payload := [0x01, 0x00, 0x01, 0, 0, 0, 0, 0, 0, 0x00, 0xFF, 0x00, 0x00, cause.code] ++
          beBytes 2 generation } := by
  have h1 : beBytes 2 1 = [0x00, 0x01] := by decide
  have h6 : beBytes 6 0 = [0, 0, 0, 0, 0, 0] := by decide
  have h0 : beBytes 2 0 = [0x00, 0x00] := by decide
  simp [Notice.frame, NoticeBody.code, Notice.seqByte, NoticeBody.cls, NoticeClass.code, NoticeBody.subject,
    NoticeBody.details, byte, h1, h6, h0]

theorem firstSamples_eq (pins : BitVec 8) :
    firstSamples pins = Vector.ofFn fun n =>
      { raw := if pins.getLsbD n then .high else .low, filtered := if pins.getLsbD n then .high else .low, run := 0,
        width := 2, role := .none, edges := 0 } := by
  rfl

/-- Every reset leaves the fresh device, with the fault record that its cause leaves. -/
theorem endReset_eq (cause : ResetCause) (pins : BitVec 8) (spd : Level) (d : Device) :
    d.endReset cause pins spd = freshDevice pins spd (d.fault.afterReset cause) := by
  rw [Device.endReset, pump_lone_notice (n := {
    body := .started (d.fault.afterReset cause).lastCause (d.fault.afterReset cause).generation, instant := 0, lostBefore := 0, state := .unsent, attempts := 0 })
    rfl rfl rfl rfl rfl rfl rfl]
  simp only [initial_insertResend, firstSamples_eq, Notice.firstSent]
  simp only [Device.notify, Device.initial, initial_watches_eq, append_empty, started_frame]
  rfl

/-- Settles O50: each reset that ends gives `Device.endReset` of its cause. -/
theorem resetsLeaveFreshDevice : Obligations.ResetsLeaveFreshDevice := by
  unfold Obligations.ResetsLeaveFreshDevice
  intro s pins spd
  refine ⟨?_, fun h => ?_, fun h => ?_, fun h => ?_⟩
  · show Host.Outcome.next (s.become (s.toDevice.endReset .powerOn pins spd)) = _
    rw [endReset_eq]
    rfl
  · have hend : s.toDevice.restartReset pins spd = s.toDevice.endReset .restart pins spd := by
      rcases Device.restartReset_cases pins spd s.toDevice with ⟨-, h'⟩ | ⟨hm, hr, -⟩
      · exact h'
      · rcases h with h | ⟨hrun, hsend⟩
        · exact absurd h hm
        · rw [(Device.restartReplySending_iff s.toDevice).mpr hsend] at hr
          exact absurd (hr hrun) (by simp)
    show Host.Outcome.next (s.become (s.toDevice.restartReset pins spd)) = _
    rw [hend, endReset_eq]
    rfl
  · have hend : s.toDevice.releaseReset pins spd = s.toDevice.endReset .pin pins spd := by
      rw [Device.releaseReset, h]
    show Host.Outcome.next (s.become (s.toDevice.releaseReset pins spd)) = _
    rw [hend, endReset_eq]
    rfl
  · have hend : s.toDevice.releaseReset pins spd = s.toDevice.endReset .powerOn pins spd := by
      rw [Device.releaseReset, h]
    show Host.Outcome.next (s.become (s.toDevice.releaseReset pins spd)) = _
    rw [hend, endReset_eq]
    rfl

/-! ### Sets of lines -/

/-- A bit of a set is the property of its line (R188). -/
theorem setOf_getLsbD (p : Fin 8 → Bool) (n : Fin 8) : (setOf p).getLsbD n = p n := by
  have key : ∀ (l : List (Fin 8)) (acc : BitVec 8),
      (l.foldl (fun acc n => if p n then acc ||| (1#8 <<< n.val) else acc) acc).getLsbD n =
        (acc.getLsbD n || (decide (n ∈ l) && p n)) := by
    intro l
    induction l with
    | nil => simp
    | cons m l ih =>
      intro acc
      rw [List.foldl_cons, ih]
      by_cases hp : p m = true
      · by_cases hnm : n = m
        · subst hnm
          simp [hp]
        · have hval : n.val ≠ m.val := fun h => hnm (Fin.ext h)
          have hbit : (!decide (n < m) && decide (n.val - m.val = 0)) = false := by
            simp only [Bool.and_eq_false_iff, Bool.not_eq_false', decide_eq_true_eq, decide_eq_false_iff_not,
              Fin.lt_def]
            omega
          simp [hp, hnm, hbit]
      · by_cases hnm : n = m
        · subst hnm
          simp [hp]
        · simp [hp, hnm]
  have := key (List.finRange 8) 0
  simpa [setOf] using this

/-- The pins as last sampled are the raw levels, and no other set of levels (log entry 2). -/
theorem eq_rawLevels {d : Device} {pins : BitVec 8}
    (h : ∀ n : Fin 8, pins.getLsbD n = decide (d.inputs[n].raw = .high)) : pins = d.rawLevels := by
  refine BitVec.eq_of_getLsbD_eq fun i hi => ?_
  have hraw : d.rawLevels.getLsbD i = decide (d.inputs[(⟨i, hi⟩ : Fin 8)].raw = .high) := by
    refine (setOf_getLsbD _ ⟨i, hi⟩).trans ?_
    cases d.inputs[(⟨i, hi⟩ : Fin 8)].raw <;> rfl
  exact (h ⟨i, hi⟩).trans hraw.symm

/-! ### The idle step and absent events -/

theorem step_idle {s : State} (h : s.pending = []) : step s = .next (s.become s.toDevice.idle) := by
  unfold step
  split
  · next hs => simp [h] at hs
  · rfl

theorem idle_handOver {d : Device} (hm : d.mode = .running) {e : Entry} (he : d.headDue = some e) :
    d.idle = d.handOver e := by
  rw [Device.idle, hm]
  simp only [he]

theorem idle_quiet {d : Device} (hm : d.mode = .running) (he : d.headDue = none) :
    d.idle = if d.sampleOwed then d.sampleAll d.rawLevels [] else d.tick := by
  rw [Device.idle, hm]
  simp only [he]

theorem tick_running {d : Device} (h : d.elapsed < 281474976710655) :
    d.tick = { d with elapsed := d.elapsed + 1, handed := [], sampleOwed := true } :=
  if_pos h

theorem tick_end {d : Device} (h : d.elapsed = 281474976710655) : d.tick = { d with sampleOwed := true } :=
  if_neg (by rw [h]; exact Nat.lt_irrefl _)

/-- With no head due there is no hand-over (R11; log entry 4). -/
theorem expiryOf_none {d : Device} (h : d.headDue = none) (want : Entry → Bool) : d.expiryOf want = d := by
  rw [Device.expiryOf, h]

/-- A command whose event is not there leaves a running device as it is. -/
theorem whileRunning_absent {s : State} (hm : s.mode = .running) {f : Device → Device} (h : f s.toDevice = s.toDevice) :
    whileRunning f s = .next s := by
  rw [whileRunning_running hm, h]
  rfl

/-- Settles O2: the empty step by mode, the absent events by `Device.headDue`, `Device.frameSent` and the reset's
cases. -/
theorem idleStepAndAbsentEvents : Obligations.IdleStepAndAbsentEvents := by
  unfold Obligations.IdleStepAndAbsentEvents
  refine ⟨fun s hs => ⟨fun cause hm hc => ?_, fun hm pins hp => ?_, fun hm => ⟨fun e he => ?_, fun he =>
    ⟨fun ho => ?_, fun ho ht => ?_, fun ho ht => ?_⟩⟩⟩,
    fun s hm => ⟨fun he c hc => ?_, fun ht => ?_, fun h pins spd => ?_, fun pins spd => ?_⟩⟩
  · have hidle : s.toDevice.idle = s.toDevice := by
      cases cause with
      | restart => exact absurd rfl hc
      | powerOn => rw [Device.idle, hm]
      | pin => rw [Device.idle, hm]
    rw [step_idle hs, hidle]
    rfl
  · have hidle : s.toDevice.idle = s.toDevice.endReset .restart s.toDevice.rawLevels s.link.spd := by
      rw [Device.idle, hm]
    rw [step_idle hs, hidle, endReset_eq, eq_rawLevels hp]
    rfl
  · rw [step_idle hs, idle_handOver hm he]
  · rw [step_idle hs, idle_quiet hm he, if_pos ho]
  · rw [step_idle hs, idle_quiet hm he, if_neg (by simp [ho]), tick_running ht]
  · rw [step_idle hs, idle_quiet hm he, if_neg (by simp [ho]), tick_end ht]
  · have habsent : ∀ want : Device → Entry → Bool, whileRunning (fun d => d.expiryOf (want d)) s = .next s :=
      fun want => whileRunning_absent hm (expiryOf_none he (want s.toDevice))
    simp only [List.mem_cons, List.not_mem_nil, or_false] at hc
    rcases hc with rfl | rfl | rfl | rfl | rfl | rfl | rfl | rfl
    · exact habsent fun _ => Entry.ofTimer
    · exact habsent fun d => d.entryWatchIn .running
    · exact habsent fun d => d.entryWatchIn .warn
    · exact habsent fun d => d.entryWatchIn .releasing
    · exact habsent fun d e => e.owner == .watch 0 && d.entryWatchIn .tripped e
    · exact habsent fun _ => Entry.ofPulse
    · exact habsent fun _ e => e.owner == .rstoPulse
    · exact habsent fun _ e => e.owner == .resend
  · exact whileRunning_absent hm (by rw [Device.frameSent, ht])
  · have hr : s.toDevice.restartReplySending = false := by
      rw [← Bool.not_eq_true, Device.restartReplySending_iff]
      rintro ⟨hp, hq, f, hf, hk⟩
      rcases h with h | h | h
      · rw [h] at hp
        cases hp
      · exact h hq
      · exact h f hf hk
    have hreset : s.toDevice.restartReset pins spd = s.toDevice := by
      rw [Device.restartReset, hm]
      simp only [hr, Bool.false_eq_true, if_false]
    show Host.Outcome.next (s.become (s.toDevice.restartReset pins spd)) = _
    rw [hreset]
    rfl
  · have hrelease : s.toDevice.releaseReset pins spd = s.toDevice := by rw [Device.releaseReset, hm]
    show Host.Outcome.next (s.become (s.toDevice.releaseReset pins spd)) = _
    rw [hrelease]
    rfl

/-! ### The state right after reset -/

/-- State.reset is the fresh device of a power-on with the pins and SPD LOW (log entry 1). -/
theorem reset_eq_freshDevice : State.reset.toDevice = freshDevice 0 .low FaultRecord.powerOn := by decide +kernel

/-- The reset state comes of the reset values by progress, so that what every progress keeps holds of it. -/
theorem reset_progresses :
    Progresses (Device.initial (firstSamples 0) .low FaultRecord.powerOn) State.reset.toDevice := by
  have h := endReset_progresses .powerOn 0 .low (Device.initial (firstSamples 0) .low FaultRecord.powerOn)
  rw [endReset_eq] at h
  rw [reset_eq_freshDevice]
  exact h

theorem initial_consistent (pins : BitVec 8) (spd : Level) :
    (Device.initial (firstSamples pins) spd FaultRecord.powerOn).consistent where
  ordered := initial_listOrdered _ _ _
  settled := ⟨by simp [Device.initial], by simp [Device.initial]⟩
  claims := initial_claimsKept spd _ fun n => by simp [firstSamples, InputRec.default]
  pulses := initial_pulsesKept _ _ _
  capacity := ⟨Nat.zero_le _, Nat.zero_le _, Nat.zero_le _, Nat.zero_le _, Nat.zero_lt_succ _, Nat.zero_le _⟩

theorem reset_consistent : State.reset.toDevice.consistent := by
  have keeps {d d' : Device} (h : Progresses d d') (hd : d.consistent) : d'.consistent := by
    induction h with
    | refl => exact hd
    | tail _ h ih => exact h.consistent ih
  exact keeps reset_progresses (initial_consistent 0 .low)

theorem reset_timers (t : Fin 24) : State.reset.timers[t] = none := by
  simp [State.reset, Device.initial]

theorem reset_watch {w : Fin 16} {r : WatchRec} (h : State.reset.watches[w] = some r) :
    w = 0 ∧ r = WatchRec.linkDefault :=
  initial_watch (inputs := Vector.replicate 8 (InputRec.default .low)) (spd := .low) (f := FaultRecord.powerOn) h

theorem reset_watch_zero : State.reset.watches[(0 : Fin 16)] = some WatchRec.linkDefault := rfl

theorem reset_windowKept : State.reset.toDevice.windowKept := by
  refine ⟨by decide, by decide, by decide, fun i n h => ?_, by decide⟩
  cases i with
  | zero =>
    obtain rfl := Option.some.inj h
    exact ⟨false, rfl⟩
  | succ i => cases h

theorem reset_holdersKept : State.reset.toDevice.holdersKept := by
  intro n w
  have hline : State.reset.lines[n].watchHolders = 0 := by simp [State.reset, Device.initial, LineRec.default]
  rw [hline]
  cases hw : State.reset.watches[w] with
  | none => simp
  | some r =>
    obtain ⟨-, rfl⟩ := reset_watch hw
    simp [WatchRec.linkDefault]

theorem reset_timersScheduled : State.reset.toDevice.timersScheduled := by
  intro t
  have hentry : State.reset.toDevice.entryOf (.timer t) = none := by simp [State.reset, Device.entryOf]
  simp [hentry, reset_timers, -Fin.getElem_fin]

theorem reset_watchesScheduled : State.reset.toDevice.watchesScheduled := by
  intro w
  constructor
  · intro h
    by_cases hw : w = 0
    · subst hw
      exact ⟨WatchRec.linkDefault, reset_watch_zero, .inl rfl⟩
    · simp [State.reset, Device.entryOf, Ne.symm hw] at h
  · rintro ⟨r, hr, -⟩
    obtain ⟨rfl, -⟩ := reset_watch hr
    decide

theorem reset_linkWatchKept : State.reset.toDevice.linkWatchKept :=
  ⟨WatchRec.linkDefault, reset_watch_zero, by decide, rfl, rfl, rfl, rfl, by decide, by decide, by decide,
    fun _ => by decide, fun h => by rcases h with h | h <;> cases h⟩

theorem reset_chainsBounded : State.reset.toDevice.chainsBounded := by
  have hparent : ∀ x, State.reset.toDevice.parentOf x = none := fun x => by
    simp [Device.parentOf, reset_timers, -Fin.getElem_fin]
  exact ⟨fun x p h => (nomatch (hparent x).symm.trans h), fun x => by simp only [hparent, Option.bind_none]⟩

/-- Settles O52: what progress keeps holds of the reset values and so of State.reset; the rest is read off its
tables. -/
theorem invariantsHoldAtReset : Obligations.InvariantsHoldAtReset := by
  unfold Obligations.InvariantsHoldAtReset
  obtain ⟨ordered, settled, claims, pulses, capacity⟩ := reset_consistent
  exact ⟨ordered, settled, reset_windowKept, reset_holdersKept, reset_timersScheduled, reset_watchesScheduled,
    reset_linkWatchKept, reset_chainsBounded, claims, pulses, capacity⟩

end Sys2Proof.Machine
end

section
/-! The sample of a tick (R140 to R142): every filter runs once whatever the order, and a lone edge's delivery sees of
the inputs their filtered levels alone. -/

namespace Sys2Proof.Machine

/-! ### What an edge's delivery reads of the inputs -/

/-- The device with other records of the input lines. -/
def Device.withInputs (v : Vector InputRec 8) (d : Device) : Device := { d with inputs := v }

section
variable (v : Vector InputRec 8) (d : Device)

@[simp] theorem withInputs_elapsed : (d.withInputs v).elapsed = d.elapsed := rfl
@[simp] theorem withInputs_timers : (d.withInputs v).timers = d.timers := rfl
@[simp] theorem withInputs_watches : (d.withInputs v).watches = d.watches := rfl
@[simp] theorem withInputs_lines : (d.withInputs v).lines = d.lines := rfl
@[simp] theorem withInputs_deadlines : (d.withInputs v).deadlines = d.deadlines := rfl
@[simp] theorem withInputs_linkWatch : (d.withInputs v).linkWatch = d.linkWatch := rfl
@[simp] theorem withInputs_inputs : (d.withInputs v).inputs = v := rfl
@[simp] theorem withInputs_withInputs (u : Vector InputRec 8) : (d.withInputs u).withInputs v = d.withInputs v := rfl

theorem applyEffect_withInputs (n : Fin 8) (eff : Effect) :
    (d.withInputs v).applyEffect n eff = (d.applyEffect n eff).withInputs v := by
  unfold Device.applyEffect
  cases eff with
  | toggle =>
    dsimp only [withInputs_lines]
    cases d.lines[n].shadow <;> rfl
  | _ => rfl

theorem scheduleStart_withInputs (t : Fin 24) (r : TimerRec) :
    (d.withInputs v).scheduleStart t r = (d.scheduleStart t r).withInputs v := by
  unfold Device.scheduleStart
  cases r.kind with
  | absolute due => rfl
  | relative => cases r.source <;> rfl

theorem beginTimer_withInputs (t : Fin 24) (r : TimerRec) :
    (d.withInputs v).beginTimer t r = (d.beginTimer t r).withInputs v :=
  scheduleStart_withInputs v (d.setTimer t (some { r with state := .running, remaining := r.period })) t r

theorem triggerTimer_withInputs (t : Fin 24) :
    (d.withInputs v).triggerTimer t = (d.triggerTimer t).withInputs v := by
  unfold Device.triggerTimer
  rw [withInputs_timers]
  cases d.timers[t] with
  | none => rfl
  | some r =>
    dsimp only
    cases r.state with
    | paused => rfl
    | idle => exact beginTimer_withInputs v d t r
    | running => exact beginTimer_withInputs v d t r

theorem stopTimer_withInputs (t : Fin 24) (r : TimerRec) :
    (d.withInputs v).stopTimer t r = (d.stopTimer t r).withInputs v := by
  unfold Device.stopTimer
  cases r.output <;> rfl

theorem continueTimer_withInputs (t : Fin 24) (r : TimerRec) (due : Int) :
    (d.withInputs v).continueTimer t r due = (d.continueTimer t r due).withInputs v := by
  have hwall : (d.withInputs v).wall = d.wall := rfl
  unfold Device.continueTimer
  cases r.mode with
  | once => rfl
  | repeating =>
    cases r.kind with
    | relative => cases r.source <;> rfl
    | absolute old =>
      dsimp only
      rw [hwall]
      by_cases h : Config.maxDueWall < old + gridSteps old r.interval d.wall * r.interval
      · rw [if_pos h, if_pos h]
        rfl
      · rw [if_neg h, if_neg h]
        rfl

theorem outputStage_withInputs (r : TimerRec) : (d.withInputs v).outputStage r = (d.outputStage r).withInputs v := by
  unfold Device.outputStage
  cases r.output with
  | none => rfl
  | some a => exact applyEffect_withInputs v d _ _

theorem noticeStage_withInputs (t : Fin 24) (r : TimerRec) (late : Bool) (missed : Nat) :
    (d.withInputs v).noticeStage t r late missed = (d.noticeStage t r late missed).withInputs v := by
  unfold Device.noticeStage
  cases r.notice <;> rfl

theorem triggerStage_withInputs (r : TimerRec) :
    (d.withInputs v).triggerStage r = (d.triggerStage r).withInputs v := by
  unfold Device.triggerStage
  cases r.trigger with
  | none => rfl
  | some u => exact triggerTimer_withInputs v d u

theorem expiryStages_withInputs (t : Fin 24) (r : TimerRec) (due : Int) (pastDue : Bool) :
    (d.withInputs v).expiryStages t r due pastDue = (d.expiryStages t r due pastDue).withInputs v := by
  have hlate : (d.withInputs v).isLate r pastDue = d.isLate r pastDue := rfl
  have hmissed : (d.withInputs v).missedCount r = d.missedCount r := rfl
  simp only [Device.expiryStages, hlate, hmissed, continueTimer_withInputs, outputStage_withInputs,
    noticeStage_withInputs, triggerStage_withInputs]

theorem takeCount_withInputs {f : Device → Device} (hf : ∀ d, f (d.withInputs v) = (f d).withInputs v) (c : Fin 24)
    (r : TimerRec) : (d.withInputs v).takeCount f c r = (d.takeCount f c r).withInputs v := by
  unfold Device.takeCount
  by_cases h : r.remaining - 1 = 0
  · dsimp only
    rw [if_pos h, if_pos h]
    exact hf (d.setTimer c (some { r with remaining := r.remaining - 1 }))
  · dsimp only
    rw [if_neg h, if_neg h]
    rfl

theorem offerCount_withInputs {f : Device → Device} (hf : ∀ d, f (d.withInputs v) = (f d).withInputs v)
    (parent c : Fin 24) : (d.withInputs v).offerCount f parent c = (d.offerCount f parent c).withInputs v := by
  unfold Device.offerCount
  rw [withInputs_timers]
  cases d.timers[c] with
  | none => rfl
  | some r =>
    by_cases h : r.childOf parent ∧ r.state = .running
    · dsimp only
      rw [if_pos h, if_pos h]
      exact takeCount_withInputs v d hf c r
    · dsimp only
      rw [if_neg h, if_neg h]

theorem foldl_withInputs {α : Type} {f : Device → α → Device}
    (hf : ∀ d a, f (d.withInputs v) a = (f d a).withInputs v) (l : List α) :
    l.foldl f (d.withInputs v) = (l.foldl f d).withInputs v := by
  induction l generalizing d with
  | nil => rfl
  | cons a l ih => rw [List.foldl_cons, hf, ih, List.foldl_cons]

theorem expire_withInputs (fuel : Nat) (t : Fin 24) (due : Int) (pastDue : Bool) :
    expire fuel t due pastDue (d.withInputs v) = (expire fuel t due pastDue d).withInputs v := by
  induction fuel generalizing t due pastDue d with
  | zero => rfl
  | succ fuel ih =>
    unfold expire
    rw [withInputs_timers]
    cases d.timers[t] with
    | none => rfl
    | some r =>
      dsimp only
      rw [expiryStages_withInputs]
      exact foldl_withInputs v _ (fun d c => offerCount_withInputs v d (fun d => ih d c d.elapsed false) t c) _

theorem drain_withInputs (fuel : Nat) : drain fuel (d.withInputs v) = (drain fuel d).withInputs v := by
  induction fuel generalizing d with
  | zero => rfl
  | succ fuel ih =>
    unfold drain
    rw [withInputs_deadlines]
    cases d.deadlines.find? (fun e => e.pastDue) with
    | none => rfl
    | some e =>
      dsimp only
      cases e.owner with
      | timer t =>
        have hexp := expire_withInputs v (d.takeOwner (.timer t)) 24 t e.due true
        exact (congrArg (drain fuel) hexp).trans (ih _)
      | _ => rfl

theorem drainPastDue_withInputs : (d.withInputs v).drainPastDue = d.drainPastDue.withInputs v :=
  drain_withInputs v d 24

theorem tripDeadline_withInputs (w : Fin 16) (r : WatchRec) :
    (d.withInputs v).tripDeadline w r = (d.tripDeadline w r).withInputs v := by
  unfold Device.tripDeadline
  by_cases h : w = 0
  · rw [if_pos h, if_pos h]
    rfl
  · rw [if_neg h, if_neg h]
    rfl

theorem trip_withInputs (w : Fin 16) (cause : Cause) (r : WatchRec) :
    (d.withInputs v).trip w cause r = (d.trip w cause r).withInputs v := by
  have hdeadline := tripDeadline_withInputs v
    (d.setWatch w (some { r with state := .tripped, trips := addStop16 r.trips 1, recovery := 0 })) w r
  have hset : ∀ x, (d.withInputs v).setWatch w x = (d.setWatch w x).withInputs v := fun _ => rfl
  unfold Device.trip
  dsimp only
  rw [hset, hdeadline]
  by_cases h : w = 0
  · rw [if_pos h, if_pos h]
    rfl
  · rw [if_neg h, if_neg h]
    rfl

/-- The retrip deadline that watch 0 without LOCKOUT is given (R109, R112). -/
theorem retripUnlessLocked_withInputs (w : Fin 16) (r : WatchRec) :
    (if w = 0 ∧ (d.withInputs v).linkWatch.lockout = false then (d.withInputs v).insertRetrip r else d.withInputs v) =
      (if w = 0 ∧ d.linkWatch.lockout = false then d.insertRetrip r else d).withInputs v := by
  by_cases h : w = 0 ∧ d.linkWatch.lockout = false
  · rw [if_pos h]
    exact if_pos h
  · rw [if_neg h]
    exact if_neg h

theorem abortRelease_withInputs (w : Fin 16) (cause : Cause) (r : WatchRec) :
    (d.withInputs v).abortRelease w cause r = (d.abortRelease w cause r).withInputs v :=
  congrArg (Device.notify (.releaseAborted w cause)) (retripUnlessLocked_withInputs v
    ((d.setWatch w (some { r with state := .tripped, recovery := 0 })).removeEntry (.watch w)) w r)

theorem renew_withInputs (w : Fin 16) (r : WatchRec) : (d.withInputs v).renew w r = (d.renew w r).withInputs v := by
  have hdef : (r.renewed d.elapsed).state = r.state := rfl
  unfold Device.renew
  dsimp only [withInputs_elapsed]
  rw [hdef]
  cases r.state with
  | tripped =>
    exact retripUnlessLocked_withInputs v (d.setWatch w _) w (r.renewed d.elapsed)
  | _ => rfl

/-- The same filtered levels in two tables of inputs. -/
def SameFiltered (u v : Vector InputRec 8) : Prop := ∀ n : Fin 8, u[n].filtered = v[n].filtered

variable {v} {d}

theorem sourcePhase_withInputs (h : SameFiltered d.inputs v) (src : WatchSource) :
    (d.withInputs v).sourcePhase src = d.sourcePhase src := by
  cases src with
  | link => rfl
  | line n active => exact if_congr (by rw [withInputs_inputs, h n]) rfl rfl

theorem enterWarn_withInputs (h : SameFiltered d.inputs v) (w : Fin 16) (cause : Cause) (r : WatchRec) :
    (d.withInputs v).enterWarn w cause r = (d.enterWarn w cause r).withInputs v := by
  unfold Device.enterWarn
  rw [sourcePhase_withInputs h]
  rfl

theorem earlyCandidate_withInputs (h : SameFiltered d.inputs v) (w : Fin 16) (r : WatchRec) :
    (d.withInputs v).earlyCandidate w r = (d.earlyCandidate w r).withInputs v := by
  unfold Device.earlyCandidate
  dsimp only
  cases r.state with
  | dormant => rfl
  | running => exact enterWarn_withInputs h _ _ _
  | warn => exact trip_withInputs v d _ _ _
  | tripped => rfl
  | releasing => exact abortRelease_withInputs v d _ _ _

theorem watchEdge_withInputs (h : SameFiltered d.inputs v) (w : Fin 16) (level : Level) :
    (d.withInputs v).watchEdge w level = (d.watchEdge w level).withInputs v := by
  unfold Device.watchEdge
  rw [withInputs_watches, withInputs_elapsed]
  cases d.watches[w] with
  | none => rfl
  | some r =>
    dsimp only
    cases r.source with
    | link => rfl
    | line n active =>
      dsimp only
      by_cases hl : level = active
      · rw [if_pos hl, if_pos hl]
        rfl
      · rw [if_neg hl, if_neg hl]
        by_cases hs : r.state = .dormant
        · rw [if_pos hs, if_pos hs]
          rfl
        · rw [if_neg hs, if_neg hs]
          by_cases he : r.isEarly d.elapsed
          · rw [if_pos he, if_pos he]
            exact earlyCandidate_withInputs h w _
          · rw [if_neg he, if_neg he]
            exact renew_withInputs v d w _

theorem countEdge_withInputs (t : Fin 24) (level : Level) :
    (d.withInputs v).countEdge t level = (d.countEdge t level).withInputs v := by
  unfold Device.countEdge
  rw [withInputs_timers]
  cases d.timers[t] with
  | none => rfl
  | some r =>
    dsimp only
    cases r.source with
    | input n e =>
      cases r.state with
      | running =>
        by_cases hq : e.qualifies level
        · simpa only [hq, if_true] using
            takeCount_withInputs v d (fun d => expire_withInputs v d 24 t d.elapsed false) t r
        · simp only [hq]
          rfl
      | _ => rfl
    | _ => rfl

theorem stopEdge_withInputs (t : Fin 24) : (d.withInputs v).stopEdge t = (d.stopEdge t).withInputs v := by
  unfold Device.stopEdge
  rw [withInputs_timers]
  cases d.timers[t] with
  | none => rfl
  | some r =>
    dsimp only
    cases r.state with
    | idle => rfl
    | running => exact stopTimer_withInputs v d t r
    | paused => exact stopTimer_withInputs v d t r

/-- An edge's delivery sees of the inputs their filtered levels alone (R76, R142). -/
theorem deliverEdge_withInputs (h : SameFiltered d.inputs v) (role : Role) (level : Level) :
    (d.withInputs v).deliverEdge role level = (d.deliverEdge role level).withInputs v := by
  cases role with
  | none => rfl
  | checkin w => exact watchEdge_withInputs h w level
  | count t => exact countEdge_withInputs t level
  | trigger t e act =>
    by_cases hq : e.qualifies level
    · cases act with
      | start => simpa only [Device.deliverEdge, hq, if_true] using triggerTimer_withInputs v d t
      | stop => simpa only [Device.deliverEdge, hq, if_true] using stopEdge_withInputs t
    · cases act <;> simp only [Device.deliverEdge, hq] <;> rfl

end

/-! ### The order of the lines -/

theorem nodup_eraseDups (l : List (Fin 8)) : l.eraseDups.Nodup := by
  induction hl : l.length using Nat.strong_induction_on generalizing l with
  | _ k ih =>
    cases l with
    | nil => simp
    | cons a l =>
      rw [List.eraseDups_cons, List.nodup_cons]
      have hlt : (l.filter fun b => !b == a).length < k := by
        have := List.length_filter_le (fun b => !b == a) l
        simp only [List.length_cons] at hl
        omega
      exact ⟨by simp [List.mem_eraseDups], ih _ hlt _ rfl⟩

/-- Every line is taken once, whatever order is given (log entry 3). -/
theorem lineOrder_nodup_mem (order : List (Fin 8)) : (lineOrder order).Nodup ∧ ∀ n, n ∈ lineOrder order := by
  constructor
  · refine List.Nodup.append (nodup_eraseDups order) ((List.nodup_finRange 8).filter _) fun n h1 h2 => ?_
    simp only [List.mem_filter, decide_eq_true_eq] at h2
    exact h2.2 (List.mem_eraseDups.mp h1)
  · intro n
    by_cases h : n ∈ order <;> simp [lineOrder, h]

/-! ### The filters -/

/-- The records after the lines of a list have been sampled, each once. -/
def sampleInputs (levels : BitVec 8) (l : List (Fin 8)) (v : Vector InputRec 8) : Vector InputRec 8 :=
  l.foldl (fun v n => v.set n.val (v[n].sample (pinLevel levels n)).1 n.isLt) v

theorem sampleInputs_append (levels : BitVec 8) (l l' : List (Fin 8)) (v : Vector InputRec 8) :
    sampleInputs levels (l ++ l') v = sampleInputs levels l' (sampleInputs levels l v) :=
  List.foldl_append

theorem sampleInputs_getElem (levels : BitVec 8) {l : List (Fin 8)} (hl : l.Nodup) (v : Vector InputRec 8) (m : Fin 8) :
    (sampleInputs levels l v)[m] = if m ∈ l then (v[m].sample (pinLevel levels m)).1 else v[m] := by
  induction l generalizing v with
  | nil => rfl
  | cons n l ih =>
    obtain ⟨hn, hl⟩ := List.nodup_cons.mp hl
    refine (ih hl _).trans ?_
    rw [getElem_set_fin]
    by_cases hmn : m = n
    · subst hmn
      simp [hn, -Fin.getElem_fin]
    · simp [hmn, -Fin.getElem_fin]

/-- The sample of a line changes its record, and keeps else what changes of timers and watches keep. -/
theorem sampleLine_sameBase (n : Fin 8) (level : Level) (d : Device) :
    (d.setInput n (d.inputs[n].sample level).1).SameBase (d.sampleLine n level) := by
  unfold Device.sampleLine
  dsimp only
  split
  · exact (deliverEdge_sameBase _ _ _).trans (drainPastDue_works _).sameBase
  · exact .refl _

/-- The transmit arbiter touches the notices, the resend deadline and the link port alone (R181). -/
theorem arbitrate_inputs (d : Device) : d.arbitrate.inputs = d.inputs ∧ d.arbitrate.sampleOwed = d.sampleOwed := by
  have hsend : d.sendNotice.inputs = d.inputs ∧ d.sendNotice.sampleOwed = d.sampleOwed := by
    unfold Device.sendNotice
    split
    · exact ⟨rfl, rfl⟩
    · split
      · split
        · exact ⟨rfl, rfl⟩
        · dsimp only
          split <;> exact ⟨rfl, rfl⟩
      · exact ⟨rfl, rfl⟩
  unfold Device.arbitrate
  split
  · exact ⟨rfl, rfl⟩
  · split
    · exact ⟨rfl, rfl⟩
    · split
      · exact ⟨rfl, rfl⟩
      · exact hsend

/-- What holds while a sample runs with no frame waiting: no frame comes, time stands, the sample is no longer owed, and
the inputs are the given ones. -/
structure Device.Sampling (d : Device) (v : Vector InputRec 8) (now : Nat) : Prop where
  receive : d.link.receiveQueue = []
  elapsed : d.elapsed = now
  sampleOwed : d.sampleOwed = false
  inputs : d.inputs = v

theorem sampleLine_pump_sampling {d : Device} {v : Vector InputRec 8} {now : Nat} (h : d.Sampling v now) (n : Fin 8)
    (level : Level) :
    (d.sampleLine n level).pump.Sampling (v.set n.val (v[n].sample level).1 n.isLt) now := by
  have hs := sampleLine_sameBase n level d
  have ha := (arbitrate_acts (d.sampleLine n level)).sameTime
  have hq : (d.sampleLine n level).arbitrate.link.receiveQueue = [] := by
    have hle := ha.receive
    rw [hs.link, Device.setInput_link, h.receive] at hle
    exact List.eq_nil_of_length_eq_zero (Nat.le_zero.mp hle)
  have hi := arbitrate_inputs (d.sampleLine n level)
  rw [Device.pump, dispatch_nil hq]
  refine ⟨hq, (ha.elapsed.trans hs.elapsed).trans h.elapsed, (hi.2.trans hs.sampleOwed).trans h.sampleOwed, ?_⟩
  rw [hi.1, hs.inputs, Device.setInput_inputs, h.inputs]

theorem sampleAll_sampling (levels : BitVec 8) (order : List (Fin 8)) {d : Device} (h : d.link.receiveQueue = []) :
    (d.sampleAll levels order).Sampling (sampleInputs levels (lineOrder order) d.inputs) d.elapsed := by
  have key : ∀ (l : List (Fin 8)) (v : Vector InputRec 8) (d' : Device), d'.Sampling v d.elapsed →
      (l.foldl (fun d n => (d.sampleLine n (pinLevel levels n)).pump) d').Sampling (sampleInputs levels l v)
        d.elapsed := by
    intro l
    induction l with
    | nil => exact fun _ _ h => h
    | cons n l ih => exact fun v d' h => ih _ _ (sampleLine_pump_sampling h n _)
  exact key _ _ _ ⟨h, rfl, rfl, rfl⟩

/-! ### A lone edge -/

/-- A line without an edge only has its record changed. -/
theorem sampleLine_quiet {d : Device} {n : Fin 8} {level : Level} (h : (d.inputs[n].sample level).2 = false) :
    d.sampleLine n level = d.setInput n (d.inputs[n].sample level).1 := by
  simp only [Device.sampleLine, h, Bool.false_eq_true, if_false]

/-- With the transmitter busy and no frame waiting, lines without an edge only have their records changed. -/
theorem foldl_sampleLine_quiet (levels : BitVec 8) {l : List (Fin 8)} (hl : l.Nodup) {d : Device} {f : Frame}
    (ht : d.link.transmitting = some f) (hq : d.link.receiveQueue = [])
    (h : ∀ n ∈ l, (d.inputs[n].sample (pinLevel levels n)).2 = false) :
    l.foldl (fun d n => (d.sampleLine n (pinLevel levels n)).pump) d =
      d.withInputs (sampleInputs levels l d.inputs) := by
  induction l generalizing d with
  | nil => rfl
  | cons n l ih =>
    obtain ⟨hn, hl⟩ := List.nodup_cons.mp hl
    have hrest : ∀ m ∈ l, ((d.setInput n (d.inputs[n].sample (pinLevel levels n)).1).inputs[m].sample
        (pinLevel levels m)).2 = false := fun m hm => by
      rw [Device.setInput_inputs, getElem_set_fin, if_neg (fun hmn => hn (by rwa [← hmn]))]
      exact h m (by simp [hm])
    have hpump : (d.setInput n (d.inputs[n].sample (pinLevel levels n)).1).pump = d.setInput n _ :=
      Device.pump_busy (f := f) ht hq
    rw [List.foldl_cons, sampleLine_quiet (h n (by simp)), hpump, ih (d := d.setInput n _) hl ht hq hrest]
    rfl

/-- An edge is where the level differs and has differed long enough (R141). -/
theorem sample_snd (r : InputRec) (level : Level) :
    (r.sample level).2 = true ↔ level ≠ r.filtered ∧ r.width + 1 ≤ r.run + 1 := by
  unfold InputRec.sample
  split
  · next h => simp [h]
  · next h =>
    split
    · next hw => simp [h, hw]
    · next hw => simp [h, hw]

/-- Without an edge the filtered level stays (R141). -/
theorem sample_filtered {r : InputRec} {level : Level} (h : (r.sample level).2 = false) :
    (r.sample level).1.filtered = r.filtered := by
  unfold InputRec.sample at h ⊢
  split
  · rfl
  · split
    · next h1 h2 => simp [h1, h2] at h
    · rfl

/-- The filter keeps the role of its line (R143). -/
theorem sample_role (r : InputRec) (level : Level) : (r.sample level).1.role = r.role := by
  unfold InputRec.sample
  split
  · rfl
  · split <;> rfl

/-- A sample with one edge, the transmitter busy and no frame waiting: all records changed, and the edge delivered. The
lines taken after the edge change their records without its owner seeing them. -/
theorem sampleAll_one_edge (levels : BitVec 8) (order : List (Fin 8)) {d : Device} {f : Frame} {n : Fin 8}
    (ht : d.link.transmitting = some f) (hq : d.link.receiveQueue = [])
    (hn : (d.inputs[n].sample (pinLevel levels n)).2 = true)
    (hm : ∀ m, m ≠ n → (d.inputs[m].sample (pinLevel levels m)).2 = false) :
    d.sampleAll levels order =
      ((({ d with sampleOwed := false } : Device).withInputs
        (sampleInputs levels (lineOrder order) d.inputs)).deliverEdge d.inputs[n].role (pinLevel levels n)).drainPastDue := by
  obtain ⟨before, after, hsplit⟩ := List.append_of_mem ((lineOrder_nodup_mem order).2 n)
  have hnodup := (lineOrder_nodup_mem order).1
  rw [hsplit] at hnodup
  obtain ⟨hbefore, hrest, hdisj⟩ := List.nodup_append.mp hnodup
  obtain ⟨hnafter, hafter⟩ := List.nodup_cons.mp hrest
  have hnbefore : n ∉ before := fun h => hdisj n h n (by simp) rfl
  let d₀ : Device := { d with sampleOwed := false }
  let d₁ := d₀.withInputs (sampleInputs levels before d.inputs)
  have hrec : d₁.inputs[n] = d.inputs[n] := by
    rw [withInputs_inputs, sampleInputs_getElem levels hbefore, if_neg hnbefore]
  let d₂ := d₁.setInput n (d.inputs[n].sample (pinLevel levels n)).1
  let d₃ := (d₂.deliverEdge d.inputs[n].role (pinLevel levels n)).drainPastDue
  have hedge : d₁.sampleLine n (pinLevel levels n) = d₃ := by
    simp only [Device.sampleLine, hrec, hn, if_true, sample_role]
    rfl
  have hbase : d₂.SameBase d₃ := (deliverEdge_sameBase _ _ _).trans (drainPastDue_works _).sameBase
  have ht₃ : d₃.link.transmitting = some f := by rw [hbase.link]; exact ht
  have hq₃ : d₃.link.receiveQueue = [] := by rw [hbase.link]; exact hq
  have hinputs : d₃.inputs = sampleInputs levels (before ++ [n]) d.inputs := by
    rw [hbase.inputs, sampleInputs_append, Device.setInput_inputs, ← hrec]
    rfl
  have hquiet₃ : ∀ m ∈ after, (d₃.inputs[m].sample (pinLevel levels m)).2 = false := fun m hma => by
    have hmn : m ≠ n := fun h => hnafter (h ▸ hma)
    have hmb : m ∉ before := fun h => hdisj m h m (by simp [hma]) rfl
    rw [hinputs, sampleInputs_getElem levels (hnodup.sublist (by simp)), if_neg (by simp [hmn, hmb])]
    exact hm m hmn
  have hall : sampleInputs levels after d₃.inputs = sampleInputs levels (lineOrder order) d.inputs := by
    rw [hinputs, hsplit, ← sampleInputs_append, List.append_assoc, List.singleton_append]
  have hsame : SameFiltered d₂.inputs (sampleInputs levels after d₃.inputs) := fun m => by
    rw [sampleInputs_getElem levels hafter, ← hbase.inputs]
    split
    · next hma => exact (sample_filtered (hquiet₃ m hma)).symm
    · rfl
  rw [Device.sampleAll, hsplit, List.foldl_append, List.foldl_cons]
  rw [foldl_sampleLine_quiet levels (d := d₀) hbefore ht hq fun m hmb => hm m fun h => hnbefore (h ▸ hmb)]
  rw [show d₀.withInputs (sampleInputs levels before d₀.inputs) = d₁ from rfl, hedge, Device.pump_busy ht₃ hq₃,
    foldl_sampleLine_quiet levels hafter ht₃ hq₃ hquiet₃]
  rw [← drainPastDue_withInputs, ← deliverEdge_withInputs hsame, hall, ← hsplit]
  rfl

/-! ### The statement -/

/-- With nothing due the instant is over. -/
theorem finishInstant_none {d : Device} (h : d.headDue = none) (fuel : Nat) : finishInstant fuel d = d := by
  cases fuel with
  | zero => rfl
  | succ fuel => simp only [finishInstant, h]

theorem exec_inputSample {s : State} (hm : s.mode = .running) (levels : BitVec 8) (order : List (Fin 8)) :
    exec (.inputSample levels order) s = .next (s.become (s.inputSample levels order)) :=
  whileRunning_running hm _

/-- A sample that is owed is taken at once (R140). -/
theorem inputSample_owed {d : Device} (h : d.sampleOwed = true) (levels : BitVec 8) (order : List (Fin 8)) :
    d.inputSample levels order = d.sampleAll levels order := by
  rw [Device.inputSample, if_pos h]

/-- Settles O43: every line's filter is run once whatever the order, since each line's sample changes its own record
alone; and a lone edge's delivery commutes with the other lines' samples, since it sees their filtered levels alone. -/
theorem sampleRunsEveryFilter : Obligations.SampleRunsEveryFilter := by
  intro s levels order hrun hq level edge sampled
  have hsampled : ∀ n, sampled n = (s.inputs[n].sample (pinLevel levels n)).1 := fun n => by
    simp only [InputRec.sample, apply_ite Prod.fst]
    rfl
  have hedge : ∀ n, edge n ↔ (s.inputs[n].sample (pinLevel levels n)).2 = true := fun n => (sample_snd _ _).symm
  have hinputs : ∀ n : Fin 8, (sampleInputs levels (lineOrder order) s.inputs)[n] = sampled n := fun n => by
    rw [sampleInputs_getElem levels (lineOrder_nodup_mem order).1, if_pos ((lineOrder_nodup_mem order).2 n), hsampled]
  refine ⟨fun howed => ⟨?_, fun n hn hother hbusy => ?_⟩, fun howed hdue hlt => ?_⟩
  · have hs := sampleAll_sampling levels order hq
    refine ⟨_, exec_inputSample hrun levels order, ?_⟩
    rw [inputSample_owed howed]
    exact ⟨hs.sampleOwed, hs.elapsed, fun n => (congrArg (·[n]) hs.inputs).trans (hinputs n)⟩
  · obtain ⟨f, hf⟩ := Option.isSome_iff_exists.mp hbusy
    have hquiet : ∀ m, m ≠ n → (s.inputs[m].sample (pinLevel levels m)).2 = false := fun m hmn =>
      Bool.eq_false_iff.mpr fun h => hother m hmn ((hedge m).mpr h)
    have hv : sampleInputs levels (lineOrder order) s.inputs = Vector.ofFn sampled :=
      Vector.ext fun i hi => (hinputs ⟨i, hi⟩).trans (Vector.getElem_ofFn hi).symm
    have hall := sampleAll_one_edge levels order hf hq ((hedge n).mp hn) hquiet
    rw [hv] at hall
    intro d delivered
    have hexec : exec (.inputSample levels order) s = .next (s.become delivered.drainPastDue) := by
      rw [exec_inputSample hrun, inputSample_owed howed, hall]
      rfl
    exact ⟨hexec, fun hnone => by rw [hexec, Device.drainPastDue_none hnone]⟩
  · have htick : (finishInstant Config.deadlineCapacity s.toDevice).tick =
        { s.toDevice with elapsed := s.elapsed + 1, handed := [], sampleOwed := true } := by
      rw [finishInstant_none hdue]
      exact if_pos hlt
    rw [← htick]
    have hnext := exec_inputSample (s := s.become (finishInstant Config.deadlineCapacity s.toDevice).tick)
      ((congrArg Device.mode htick).trans hrun) levels order
    refine (exec_inputSample hrun levels order).trans (Eq.trans ?_ hnext.symm)
    have howes := inputSample_owed (congrArg Device.sampleOwed htick) levels order
    rw [Device.inputSample, if_neg (by simp [howed])]
    exact congrArg (fun d => Host.Outcome.next (s.become d)) howes.symm

end Sys2Proof.Machine
end

section
/-! TIME_SET (R4 to R6): what a late expiry is, the hand-overs of the entries made past due, one after another, and the
re-keying where R14 delays none. -/

namespace Sys2Proof.Machine

/-! ### The past-due entries of the list -/

theorem removeOwner_eq_filter (o : Owner) (l : List Entry) : removeOwner o l = l.filter fun e => e.owner ≠ o :=
  List.filter_congr fun e _ => by rw [bne, Bool.beq_eq_decide_eq, decide_not]

/-- An entry that is not past due is placed among the past-due ones without a trace. -/
theorem filter_pastDue_placeEntry {e : Entry} (h : e.pastDue = false) (l : List Entry) :
    (placeEntry e l).filter Entry.pastDue = l.filter Entry.pastDue := by
  induction l with
  | nil => simp [placeEntry, h]
  | cons f l ih =>
    unfold placeEntry
    split
    · simp [h]
    · simp only [List.filter_cons, ih]

theorem filter_pastDue_removeOwner {o : Owner} {l : List Entry} (h : ∀ e ∈ l, e.pastDue = true → e.owner ≠ o) :
    (removeOwner o l).filter Entry.pastDue = l.filter Entry.pastDue := by
  rw [removeOwner, List.filter_filter]
  refine List.filter_congr fun e he => ?_
  cases hp : e.pastDue with
  | false => rfl
  | true => simpa using h e he hp

/-- An insertion that makes no entry past due, of an owner without a past-due entry, leaves the past-due entries. -/
theorem filter_pastDue_insertEntry {d : Device} {o : Owner} {due : Int} {wall : Option Nat}
    (hn : wall = none ∨ o ∈ d.handed) (h : ∀ e ∈ d.deadlines, e.pastDue = true → e.owner ≠ o) :
    (d.insertEntry o due wall).deadlines.filter Entry.pastDue = d.deadlines.filter Entry.pastDue := by
  have hnew : (d.newEntry (removeOwner o d.deadlines) o due wall).pastDue = false := by
    by_contra hc
    obtain ⟨hw, ho⟩ := newEntry_pastDue (by simpa using hc)
    rcases hn with rfl | hn
    · simp at hw
    · exact ho hn
  exact (filter_pastDue_placeEntry hnew _).trans (filter_pastDue_removeOwner h)

/-! ### The actions of an expiry -/

/-- The output stage's effect, by the line it leaves (R52, R53). -/
theorem applyEffect_eq (n : Fin 8) (eff : Effect) (d : Device) :
    d.applyEffect n eff =
      match eff with
      | .pulse width =>
        (d.setLine n (d.lines[n].afterEffect d.elapsed eff)).insertEntry (.pulse n) (d.elapsed + width) none
      | _ => d.setLine n (d.lines[n].afterEffect d.elapsed eff) := by
  cases eff with
  | toggle =>
    cases h : d.lines[n].shadow <;>
      simp only [Device.applyEffect, LineRec.afterEffect, h, if_true, reduceCtorEq, if_false] <;> rfl
  | _ => rfl

/-- The output and notice stages, as the actions of an expiry (R52 to R54). -/
theorem stages_eq_actions (t : Fin 24) (r : TimerRec) (late : Bool) (missed : Nat) (d : Device) :
    (d.outputStage r).noticeStage t r late missed = d.actions t r r.fires late (min missed 65535) := by
  unfold Device.noticeStage Device.actions Device.outputStage
  cases r.output with
  | none => rfl
  | some a =>
    dsimp only
    rw [applyEffect_eq]
    cases a.effect <;> rfl

theorem actions_timers (t : Fin 24) (r : TimerRec) (fires : Nat) (late : Bool) (missed : Nat) (d : Device) :
    (d.actions t r fires late missed).timers = d.timers := by
  unfold Device.actions
  cases r.output with
  | none => cases r.notice <;> rfl
  | some a => cases r.notice <;> cases he : a.effect <;> simp only [he] <;> rfl

theorem actions_pastDue (t : Fin 24) (r : TimerRec) (fires : Nat) (late : Bool) (missed : Nat) {d : Device}
    (h : ∀ e ∈ d.deadlines, e.pastDue = true → ∃ u, e.owner = .timer u) :
    (d.actions t r fires late missed).deadlines.filter Entry.pastDue = d.deadlines.filter Entry.pastDue := by
  have hpulse : ∀ n v due, (({ d with lines := v } : Device).insertEntry (.pulse n) due none).deadlines.filter
      Entry.pastDue = d.deadlines.filter Entry.pastDue := fun n v due =>
    filter_pastDue_insertEntry (.inl rfl) fun e he hp => by
      obtain ⟨u, hu⟩ := h e he hp
      simp [hu]
  unfold Device.actions
  cases r.output with
  | none => cases r.notice <;> rfl
  | some a =>
    cases he : a.effect with
    | pulse width =>
      simp only [he]
      cases r.notice with
      | none => exact hpulse a.line _ _
      | some tag => exact hpulse a.line _ _
    | _ =>
      simp only [he]
      cases r.notice <;> rfl

/-! ### A late expiry -/

/-- A late expiry changes its own timer's record alone, and keeps its source. -/
theorem expiredLate_timers (t : Fin 24) (r : TimerRec) (d : Device) :
    ∃ r', (d.expiredLate t r).timers = d.timers.set t (some r') ∧ r'.source = r.source := by
  unfold Device.expiredLate
  dsimp only
  split
  · rw [actions_timers]
    split
    · exact ⟨_, rfl, rfl⟩
    · exact ⟨_, rfl, rfl⟩
  · rw [actions_timers]
    exact ⟨_, rfl, rfl⟩

/-- A late expiry takes its own past-due entry and makes none (R13, R14). -/
theorem expiredLate_pastDue (t : Fin 24) (r : TimerRec) {d : Device}
    (h : ∀ e ∈ d.deadlines, e.pastDue = true → ∃ u, e.owner = .timer u) :
    (d.expiredLate t r).deadlines.filter Entry.pastDue =
      (d.deadlines.filter Entry.pastDue).filter fun e => e.owner ≠ .timer t := by
  have hcomm : (d.deadlines.filter fun e => e.owner ≠ .timer t).filter Entry.pastDue =
      (d.deadlines.filter Entry.pastDue).filter fun e => e.owner ≠ .timer t := by
    simp only [List.filter_filter, Bool.and_comm]
  have hsub : ∀ e ∈ d.deadlines.filter fun e => e.owner ≠ .timer t, e.pastDue = true → ∃ u, e.owner = .timer u :=
    fun e he => h e (List.mem_filter.mp he).1
  have hown : ∀ e ∈ d.deadlines.filter fun e => e.owner ≠ .timer t, e.pastDue = true → e.owner ≠ .timer t :=
    fun e he _ => by simpa using (List.mem_filter.mp he).2
  rw [← hcomm]
  unfold Device.expiredLate
  dsimp only
  split
  · split
    · rw [actions_pastDue]
      · exact filter_pastDue_insertEntry (.inr (by simp)) hown
      · intro e he hp
        rcases mem_placeEntry.mp he with rfl | he
        · exact ⟨t, by simp⟩
        · exact hsub e (mem_removeOwner.mp he).1 hp
    · exact actions_pastDue _ _ _ _ _ hsub
  · exact actions_pastDue _ _ _ _ _ hsub

/-- No timer counts the expiries of timer t (R22). -/
def Device.Childless (d : Device) (t : Fin 24) : Prop :=
  ∀ (x : Fin 24) rx, d.timers[x] = some rx → rx.source ≠ .parent t

/-- A timer without children offers no count (R59). -/
theorem offerCount_childless {d : Device} {t : Fin 24} (h : d.Childless t) (f : Device → Device) (c : Fin 24) :
    d.offerCount f t c = d := by
  unfold Device.offerCount
  cases hc : d.timers[c] with
  | none => rfl
  | some r =>
    have hno : r.childOf t = false := by simpa [TimerRec.childOf] using h c r hc
    simp [hno]

/-- Stages 1 to 5 of the past-due expiry of an ABSOLUTE timer that triggers none: it is late (R46), goes on and acts. -/
theorem expiryStages_pastDue {t : Fin 24} {r : TimerRec} {w : Nat} (hk : r.kind = .absolute w) (htr : r.trigger = none)
    (due : Int) (d : Device) :
    d.expiryStages t r due true = (d.continueTimer t (r.counted true) due).actions t r ((r.fires + 1) % 4294967296) true
      (min (d.missedCount r) 65535) := by
  have hlate : d.isLate r true = true := by simp [Device.isLate, hk]
  have htrigger : ∀ d : Device, d.triggerStage (r.counted true) = d := fun d => by
    simp [Device.triggerStage, TimerRec.counted, htr]
  unfold Device.expiryStages
  dsimp only
  rw [hlate, htrigger, stages_eq_actions]
  rfl

theorem expiredLate_once {r : TimerRec} (hm : r.mode = .once) (t : Fin 24) (d : Device) :
    d.expiredLate t r = ((d.takeOwner (.timer t)).finishTimer t (r.counted true)).actions t r
      ((r.fires + 1) % 4294967296) true 0 := by
  obtain ⟨state, kind, mode, period, source, output, notice, trigger, remaining, fires, lateCount⟩ := r
  obtain rfl : mode = .once := hm
  simp only [Device.expiredLate, ← removeOwner_eq_filter]
  rfl

theorem expiredLate_repeating {r : TimerRec} {w : Nat} {sc : Scale} (hm : r.mode = .repeating)
    (hk : r.kind = .absolute w) (hs : r.source = .time sc) (t : Fin 24) (d : Device) :
    d.expiredLate t r = ((d.takeOwner (.timer t)).continueTimer t (r.counted true) 0).actions t r
      ((r.fires + 1) % 4294967296) true (min (d.missedCount r) 65535) := by
  obtain ⟨state, kind, mode, period, source, output, notice, trigger, remaining, fires, lateCount⟩ := r
  obtain rfl : mode = .repeating := hm
  obtain rfl : kind = .absolute w := hk
  obtain rfl : source = .time sc := hs
  simp only [Device.expiredLate, ← removeOwner_eq_filter]
  refine congrArg (Device.actions t _ _ true _) ?_
  by_cases h : w + gridSteps w (period * sc.ms) d.wall * (period * sc.ms) ≤ 140737488355327
  · exact (if_pos h).trans (if_neg (Nat.not_lt.mpr h)).symm
  · exact (if_neg h).trans (if_pos (Nat.not_le.mp h)).symm

/-- Stages 1 to 5 of the past-due expiry of an ABSOLUTE timer that triggers none (R45 to R54). -/
theorem expiryStages_takeOwner_eq {t : Fin 24} {r : TimerRec} {w : Nat} {sc : Scale} (hk : r.kind = .absolute w)
    (hs : r.source = .time sc) (htr : r.trigger = none) (due : Int) (d : Device) :
    (d.takeOwner (.timer t)).expiryStages t r due true = d.expiredLate t r := by
  rw [expiryStages_pastDue hk htr]
  cases hm : r.mode with
  | once =>
    rw [expiredLate_once hm]
    have hcontinue : ∀ d : Device, d.continueTimer t (r.counted true) due = d.finishTimer t (r.counted true) :=
      fun d => by simp only [Device.continueTimer, TimerRec.counted, hm]
    have hmissed : (d.takeOwner (.timer t)).missedCount r = 0 := by simp only [Device.missedCount, hm]
    rw [hcontinue, hmissed]
    rfl
  | repeating =>
    rw [expiredLate_repeating hm hk hs]
    have hcontinue : ∀ d : Device, d.continueTimer t (r.counted true) due = d.continueTimer t (r.counted true) 0 :=
      fun d => by simp only [Device.continueTimer, TimerRec.counted, hm, hk]
    rw [hcontinue]
    rfl

/-- A past-due hand-over of an ABSOLUTE timer that triggers and counts into none (R13, R44). -/
theorem expireTimer_takeOwner_eq {d : Device} {t : Fin 24} {r : TimerRec} {w : Nat} {sc : Scale}
    (ht : d.timers[t] = some r) (hk : r.kind = .absolute w) (hs : r.source = .time sc) (htr : r.trigger = none)
    (hc : d.Childless t) (due : Int) : (d.takeOwner (.timer t)).expireTimer t due true = d.expiredLate t r := by
  have hchildless : (d.expiredLate t r).Childless t := by
    obtain ⟨r', ht', hs'⟩ := expiredLate_timers t r d
    intro x rx hx
    rw [ht', getElem_set_fin] at hx
    split at hx
    · obtain rfl := Option.some.inj hx
      rw [hs', hs]
      simp
    · exact hc x rx hx
  unfold Device.expireTimer expire
  rw [Device.takeOwner_timers, ht]
  dsimp only
  rw [expiryStages_takeOwner_eq hk hs htr]
  exact List.foldl_fixed' (fun c => offerCount_childless hchildless _ c) _

/-! ### The past-due hand-overs of TIME_SET -/

/-- The entry is that of an ABSOLUTE timer that triggers and counts into none. -/
def Device.ExpiresAlone (d : Device) (e : Entry) : Prop :=
  ∃ (t : Fin 24) (r : TimerRec) (w : Nat) (sc : Scale), e.owner = .timer t ∧ d.timers[t] = some r ∧
    r.kind = .absolute w ∧ r.source = .time sc ∧ r.trigger = none ∧ d.Childless t

/-- The late expiry of an entry's timer, by the records given. -/
def Device.expiredEntry (timers : Vector (Option TimerRec) 24) (d : Device) (e : Entry) : Device :=
  match e.owner with
  | .timer t => (timers[t]).elim d (fun r => d.expiredLate t r)
  | _ => d

/-- A late expiry leaves every other timer's record, and who counts into whom. -/
theorem expiresAlone_expiredLate {d : Device} {t : Fin 24} {r : TimerRec} (ht : d.timers[t] = some r) {e : Entry}
    (h : d.ExpiresAlone e) (hne : e.owner ≠ .timer t) : (d.expiredLate t r).ExpiresAlone e := by
  obtain ⟨r', ht', hs'⟩ := expiredLate_timers t r d
  obtain ⟨u, ru, w, sc, ho, hu, hk, hs, htr, hc⟩ := h
  have hut : u ≠ t := fun h => hne (ho.trans (by rw [h]))
  refine ⟨u, ru, w, sc, ho, by rw [ht', getElem_set_fin, if_neg hut, hu], hk, hs, htr, fun x rx hx => ?_⟩
  rw [ht', getElem_set_fin] at hx
  split at hx
  · obtain rfl := Option.some.inj hx
    exact hs' ▸ hc t r ht
  · exact hc x rx hx

theorem drain_none {d : Device} (h : d.deadlines.filter Entry.pastDue = []) (fuel : Nat) : drain fuel d = d := by
  cases fuel with
  | zero => rfl
  | succ fuel =>
    have hf : d.deadlines.find? (fun e => e.pastDue) = none := by
      rw [← List.head?_filter, h]
      rfl
    rw [drain, hf]

/-- Past-due hand-overs of timers that trigger and count into none are their late expiries in list order (R13). -/
theorem drain_eq_foldl (timers : Vector (Option TimerRec) 24) {l : List Entry} (hl : (l.map Entry.owner).Nodup)
    {d : Device} (hd : d.deadlines.filter Entry.pastDue = l) (ha : ∀ e ∈ l, d.ExpiresAlone e)
    (ht : ∀ e ∈ l, ∀ t, e.owner = .timer t → d.timers[t] = timers[t]) {fuel : Nat} (hf : l.length ≤ fuel) :
    drain fuel d = l.foldl (Device.expiredEntry timers) d := by
  induction l generalizing d fuel with
  | nil => exact drain_none hd fuel
  | cons e l ih =>
    obtain ⟨t, r, w, sc, ho, htr, hk, hs, htrig, hc⟩ := ha e (by simp)
    obtain ⟨fuel, rfl⟩ : ∃ k, fuel = k + 1 := ⟨fuel - 1, by simp at hf; omega⟩
    obtain ⟨hnot, hl⟩ := List.nodup_cons.mp hl
    have hother : ∀ f ∈ l, f.owner ≠ .timer t := fun f hf hft =>
      hnot (List.mem_map.mpr ⟨f, hf, hft.trans ho.symm⟩)
    have hfind : d.deadlines.find? (·.pastDue) = some e := by
      rw [← List.head?_filter]
      exact congrArg List.head? hd
    have hexpired : Device.expiredEntry timers d e = d.expiredLate t r := by
      simp only [Device.expiredEntry, ho, ← ht e (by simp) t ho, htr, Option.elim_some]
    have hrest : (d.expiredLate t r).deadlines.filter Entry.pastDue = l := by
      have htimers : ∀ f ∈ d.deadlines, f.pastDue = true → ∃ u, f.owner = .timer u := fun f hf hp => by
        obtain ⟨u, -, -, -, hu, -⟩ := ha f (hd ▸ List.mem_filter.mpr ⟨hf, hp⟩)
        exact ⟨u, hu⟩
      rw [expiredLate_pastDue t r htimers, hd, List.filter_cons_of_neg (by simp [ho])]
      exact List.filter_eq_self.mpr fun f hf => by simpa using hother f hf
    obtain ⟨r', ht', -⟩ := expiredLate_timers t r d
    rw [drain_cons hfind ho, expireTimer_takeOwner_eq htr hk hs htrig hc, List.foldl_cons, hexpired]
    have halone : ∀ f ∈ l, (d.expiredLate t r).ExpiresAlone f := fun f hf =>
      expiresAlone_expiredLate htr (ha f (by simp [hf])) (hother f hf)
    refine ih hl hrest halone (fun f hf u hu => ?_) (by simpa using hf)
    have hut : u ≠ t := fun h => hother f hf (h ▸ hu)
    rw [ht', getElem_set_fin, if_neg hut]
    exact ht f (by simp [hf]) u hu

/-- The past-due entries that a list with one entry an owner has are at most 24, where each is a timer's. -/
theorem length_pastDue_le {l : List Entry} (hl : (l.map Entry.owner).Nodup)
    (h : ∀ e ∈ l, ∃ t, e.owner = .timer t) : l.length ≤ 24 := by
  have hsub : l.map Entry.owner ⊆ (List.finRange 24).map Owner.timer := fun o ho => by
    obtain ⟨e, he, rfl⟩ := List.mem_map.mp ho
    obtain ⟨t, ht⟩ := h e he
    exact List.mem_map.mpr ⟨t, List.mem_finRange t, ht.symm⟩
  simpa using (hl.subperm hsub).length_le

/-! ### The re-keying where R14 delays no entry -/

theorem rekeyEntries_undelayed {d : Device}
    (h : ∀ e ∈ d.deadlines.map (Entry.rekey d.wallOffset d.elapsed), d.delayedEntry e = false) :
    d.rekeyEntries = { d with deadlines := sortEntries (d.deadlines.map (Entry.rekey d.wallOffset d.elapsed)) } := by
  have hkept : (d.deadlines.map (Entry.rekey d.wallOffset d.elapsed)).filter (fun e => !d.delayedEntry e) =
      d.deadlines.map (Entry.rekey d.wallOffset d.elapsed) :=
    List.filter_eq_self.mpr fun e he => by simp [h e he]
  have hnone : (d.deadlines.map (Entry.rekey d.wallOffset d.elapsed)).filter d.delayedEntry = [] :=
    List.filter_eq_nil_iff.mpr fun e he => by simp [h e he]
  unfold Device.rekeyEntries
  dsimp only
  rw [hkept, hnone, List.foldl_nil]

/-- A re-keyed entry is past due exactly where its due wall time is not after the wall value (R5, R13). -/
theorem rekey_eq {now : Nat} (hnow : now < Config.maxElapsed) (wall : Nat) (e : Entry) :
    e.rekey (wall - now) now =
      match e.wall with
      | some w => { e with due := min (w - (wall - now : Int)) 281474976710655, pastDue := decide (w ≤ wall) }
      | none => e := by
  unfold Entry.rekey
  cases e.wall with
  | none => rfl
  | some w =>
    have hiff : clipDue (w - ((wall : Int) - now)) ≤ now ↔ w ≤ wall := by
      simp only [clipDue, Config.maxElapsed] at hnow ⊢
      omega
    simp only [hiff]
    rfl

/-! ### What the hand-overs of timers leave -/

/-- Timers' work leaves the entries of watches, of the RSTO pulse and of the resend deadline (R6). -/
theorem TimerWork.entryOf {d d' : Device} (h : TimerWork d d') {o : Owner} (ht : ∀ t, o ≠ .timer t)
    (hp : ∀ n, o ≠ .pulse n) : d'.entryOf o = d.entryOf o := by
  cases h with
  | schedule t => exact Device.entryOf_insertEntry_of_ne (ht t) _ _ _
  | change h =>
    cases h with
    | take t => exact Device.entryOf_takeOwner_of_ne (ht t) _
    | schedule t => exact Device.entryOf_insertEntry_of_ne (ht t) _ _ _
    | unschedule t => exact Device.entryOf_removeEntry_of_ne (ht t) _
    | pulse => exact Device.entryOf_insertEntry_of_ne (hp _) _ _ _
    | rest n => exact Device.entryOf_removeEntry_of_ne (hp n) _
    | _ => rfl

theorem TimerWorks.entryOf {d d' : Device} (h : TimerWorks d d') {o : Owner} (ht : ∀ t, o ≠ .timer t)
    (hp : ∀ n, o ≠ .pulse n) : d'.entryOf o = d.entryOf o := by
  induction h with
  | refl => rfl
  | tail _ h ih => exact (h.entryOf ht hp).trans ih

/-- TIME_SET leaves the entries of watches, of the RSTO pulse and of the resend deadline (R6). -/
theorem setWall_entryOf {d : Device} (ho : d.listOrdered) (hs : d.settled) (off : Int) {o : Owner}
    (ht : ∀ t, o ≠ .timer t) (hp : ∀ n, o ≠ .pulse n) : (d.setWall off).entryOf o = d.entryOf o :=
  ((drainPastDue_works _).entryOf ht hp).trans (rekeyEntries_entryOf (d := { d with wallOffset := off }) ho hs ht)

/-! ### The statement -/

theorem fieldAt_beBytes {wall : Nat} (h : wall < 281474976710656) : fieldAt (beBytes 6 wall) 0 6 = wall := by
  rw [← List.append_nil (beBytes 6 wall), fieldAt_zero_beBytes]
  exact Nat.mod_eq_of_lt h

theorem takeTimeSet_refused {wall : Nat} (h : 140737488355327 < wall) (hw : wall < 281474976710656) (d : Device) :
    takeTimeSet (beBytes 6 wall) d = (d, [0x12]) := by
  have hlt : Config.maxDueWall < fieldAt (beBytes 6 wall) 0 6 := by rwa [fieldAt_beBytes hw]
  rw [takeTimeSet, if_neg (by simp), if_pos hlt]
  rfl

theorem takeTimeSet_accepted {wall : Nat} (h : wall ≤ 140737488355327) (d : Device) :
    takeTimeSet (beBytes 6 wall) d =
      (d.setWall (offsetFor wall d.elapsed),
        0x00 :: stepField (({ d with wallOffset := offsetFor wall d.elapsed } : Device).wall - d.wall) ++
          [byte ({ d with wallOffset := offsetFor wall d.elapsed } : Device).pastDueCount]) := by
  have hfield : fieldAt (beBytes 6 wall) 0 6 = wall := fieldAt_beBytes (by omega)
  have hle : ¬ Config.maxDueWall < fieldAt (beBytes 6 wall) 0 6 := by
    rw [hfield]
    exact Nat.not_lt.mpr h
  rw [takeTimeSet, if_neg (by simp), if_neg hle, hfield]
  rfl

theorem offsetFor_eq {wall now : Nat} (hw : wall ≤ 140737488355327) (hn : now < 140737488355328) :
    offsetFor wall now = (wall : Int) - now := if_pos (by omega)

theorem stepField_eq {step : Int} (h : -140737488355328 ≤ step ∧ step ≤ 140737488355327) :
    stepField step = beBytes 6 (BitVec.ofInt 48 step).toNat := if_pos h

/-- An entry of the re-keyed list that is past due, by the entry it comes from. -/
theorem pastDue_rekey {d : Device} (hs : d.settled) (hnow : d.elapsed < Config.maxElapsed) (wall : Nat) {e : Entry}
    (he : e ∈ d.deadlines.map (Entry.rekey (wall - d.elapsed) d.elapsed)) (hp : e.pastDue = true) :
    ∃ f ∈ d.deadlines, e.owner = f.owner ∧ ∃ w, e.wall = some w ∧ f.wall = some w ∧ w ≤ wall := by
  obtain ⟨f, hf, rfl⟩ := List.mem_map.mp he
  cases hw : f.wall with
  | none =>
    rw [Entry.rekey_of_none hw, hs.1 f hf] at hp
    cases hp
  | some w =>
    rw [rekey_eq hnow, hw] at hp
    exact ⟨f, hf, by simp, w, by simp [hw], hw, by simpa using hp⟩

/-- The deadline list with its absolute entries re-keyed to a wall value, in order (R5, R8). -/
def Device.rekeyedList (d : Device) (wall : Nat) : List Entry :=
  sortEntries (d.deadlines.map (Entry.rekey (wall - d.elapsed) d.elapsed))

theorem rekeyedList_perm (d : Device) (wall : Nat) :
    (d.rekeyedList wall).Perm (d.deadlines.map (Entry.rekey (wall - d.elapsed) d.elapsed)) :=
  sortEntries_perm _

/-- The replied number of hand-overs is that of the past-due entries of the re-keyed list (R4). -/
theorem pastDueCount_eq {d : Device} (hs : d.settled) (hnow : d.elapsed < Config.maxElapsed) (wall : Nat) :
    ({ d with wallOffset := wall - d.elapsed } : Device).pastDueCount = (d.rekeyedList wall).countP Entry.pastDue := by
  rw [(rekeyedList_perm d wall).countP_eq]
  refine List.countP_congr fun e he => ?_
  rw [Bool.and_eq_true, and_iff_right_iff_imp]
  intro hp
  obtain ⟨-, -, -, w, hw, -⟩ := pastDue_rekey hs hnow wall he hp
  simp [hw]

/-- An accepted TIME_SET that makes due only timers that trigger and count into none, not handed over at this instant:
the list re-keyed and in order, then their late expiries (R4 to R6, R13). -/
theorem setWall_eq_foldl {d : Device} (ho : d.listOrdered) (hs : d.settled) (hnow : d.elapsed < Config.maxElapsed)
    (wall : Nat) (ha : ∀ e ∈ d.deadlines, ∀ w, e.wall = some w → w ≤ wall → e.owner ∉ d.handed ∧ d.ExpiresAlone e) :
    d.setWall (wall - d.elapsed) =
      ((d.rekeyedList wall).filter Entry.pastDue).foldl
        (Device.expiredEntry d.timers)
        { d with
          wallOffset := wall - d.elapsed
          deadlines := d.rekeyedList wall } := by
  have hperm := rekeyedList_perm d wall
  have hpast : ∀ e ∈ d.rekeyedList wall, e.pastDue = true →
      e.owner ∉ d.handed ∧ d.ExpiresAlone e := fun e he hp => by
    obtain ⟨f, hf, howner, w, -, hw, hle⟩ := pastDue_rekey hs hnow wall (hperm.mem_iff.mp he) hp
    obtain ⟨hh, t, ht⟩ := ha f hf w hw hle
    exact ⟨howner ▸ hh, t, howner ▸ ht⟩
  have hnodup : ((d.rekeyedList wall).map Entry.owner).Nodup := by
    rw [(hperm.map _).nodup_iff]
    simpa [Function.comp_def] using ho.2.1
  have hlate := hnodup.sublist ((List.filter_sublist (p := Entry.pastDue)).map Entry.owner)
  have hrekeyed : ({ d with wallOffset := wall - d.elapsed } : Device).rekeyEntries =
      { d with wallOffset := wall - d.elapsed, deadlines := d.rekeyedList wall } := by
    refine rekeyEntries_undelayed fun e he => ?_
    cases hp : e.pastDue with
    | false => simp [Device.delayedEntry, hp]
    | true => simpa [Device.delayedEntry, hp] using (hpast e (hperm.mem_iff.mpr he) hp).1
  rw [Device.setWall, hrekeyed, Device.drainPastDue]
  have halone : ∀ e ∈ (d.rekeyedList wall).filter Entry.pastDue, d.ExpiresAlone e := fun e he =>
    (hpast e (List.mem_filter.mp he).1 (List.mem_filter.mp he).2).2
  have hlen := length_pastDue_le hlate fun e he => (halone e he).imp fun _ ⟨_, _, _, ht, _⟩ => ht
  exact drain_eq_foldl (d := { d with wallOffset := wall - d.elapsed, deadlines := d.rekeyedList wall }) d.timers hlate
    rfl halone (fun _ _ _ _ => rfl) hlen

/-- Settles O14: the re-keying delays none of the entries it makes due, so that they are the past-due entries of the
sorted list, and their hand-overs are their late expiries one after another. Whatever else a TIME_SET makes due is the
work of timers, which touches no other owner's entry. -/
theorem timeSetMovesAbsoluteEntriesAlone : Obligations.TimeSetMovesAbsoluteEntriesAlone := by
  refine ⟨fun s tag wall hr ho hs hwall hnow hlow hhigh ha => ?_, fun s tag wall hr ho hs hwall => ⟨fun h => ?_,
    fun h => ?_⟩⟩
  · have hmax : s.elapsed < Config.maxElapsed := lt_of_lt_of_le hnow (by decide)
    have hoff := offsetFor_eq hwall hnow
    have halone : ∀ e ∈ s.deadlines, ∀ w, e.wall = some w → w ≤ wall → e.owner ∉ s.handed ∧ s.toDevice.ExpiresAlone e :=
      fun e he w hw hle => by
        obtain ⟨t, r, sc, hot, hh, ht, hk, hsrc, htr, hc⟩ := ha e he w hw hle
        exact ⟨hot ▸ hh, t, r, w, sc, hot, ht, hk, hsrc, htr, hc⟩
    have hmap : s.deadlines.map (Entry.rekey (wall - s.elapsed) s.elapsed) = s.deadlines.map (fun e =>
        match e.wall with
        | some w => { e with due := min (w - (wall - s.elapsed : Int)) 281474976710655, pastDue := decide (w ≤ wall) }
        | none => e) := List.map_congr_left fun e _ => rekey_eq hmax wall e
    have hstep : ({ s.toDevice with wallOffset := wall - s.elapsed } : Device).wall - s.wall =
        (wall : Int) - (s.elapsed + s.wallOffset) := by simp [Device.wall]
    refine ⟨s.rekeyedList wall, hmap ▸ rekeyedList_perm s.toDevice wall, pairwise_sortEntries ?_,
      (exec_command_ready .timeSet tag (beBytes 6 wall) hr).trans ?_⟩
    · simpa [Function.comp_def] using ho.2.2
    · rw [takeRequest, takeTimeSet_accepted hwall, hoff, setWall_eq_foldl ho hs hmax wall halone,
        pastDueCount_eq hs hmax wall, hstep, stepField_eq (by omega)]
      rfl
  · refine (exec_command_ready .timeSet tag (beBytes 6 wall) hr).trans ?_
    rw [takeRequest, takeTimeSet_refused h hwall]
  · refine ⟨_, exec_command_ready .timeSet tag (beBytes 6 wall) hr, ?_⟩
    rw [takeRequest, takeTimeSet_accepted h]
    have hentry : ∀ o : Owner, (∀ t, o ≠ .timer t) → (∀ n, o ≠ .pulse n) →
        (s.toDevice.setWall (offsetFor wall s.elapsed)).entryOf o = s.toDevice.entryOf o := fun o =>
      setWall_entryOf ho hs _
    exact ⟨(setWall_sameTime _ s.toDevice).elapsed, fun w => hentry _ (by simp) (by simp), hentry _ (by simp) (by simp),
      hentry _ (by simp) (by simp)⟩

end Sys2Proof.Machine
end

section
/-! Chains of timers (R22): what a new parent link does to them, and that every step keeps them bounded. -/

namespace Sys2Proof.Machine

/-! ### Climbing parent links -/

/-- The timer `k` parent links up from `x`, if the chain goes so far (R22). -/
def climb (parent : Fin 24 → Option (Fin 24)) : Nat → Fin 24 → Option (Fin 24)
  | 0, x => some x
  | k + 1, x => (parent x).bind (climb parent k)

theorem climb_four (parent : Fin 24 → Option (Fin 24)) (x : Fin 24) :
    climb parent 4 x = (((parent x).bind parent).bind parent).bind parent := by
  simp only [climb, Option.bind_assoc, Option.bind_fun_some]

/-- A timer whose depth is at most `k` has no `k` links above it. -/
theorem climb_eq_none_of_chainDepth {parent : Fin 24 → Option (Fin 24)} {k fuel : Nat} {x : Fin 24}
    (hf : k < fuel) (h : chainDepth parent fuel x ≤ k) : climb parent k x = none := by
  induction k generalizing fuel x with
  | zero =>
    obtain ⟨fuel, rfl⟩ : ∃ n, fuel = n + 1 := ⟨fuel - 1, by omega⟩
    unfold chainDepth at h
    split at h <;> omega
  | succ k ih =>
    obtain ⟨fuel, rfl⟩ : ∃ n, fuel = n + 1 := ⟨fuel - 1, by omega⟩
    unfold chainDepth at h
    rw [climb]
    split at h
    · next hp =>
      rw [hp]
      exact ih (Nat.lt_of_succ_lt_succ hf) (Nat.le_of_succ_le_succ h)
    · next hp => rw [hp, Option.bind_none]

/-- A chain that does not reach `t` does not see a change of t's parent link. -/
theorem climb_eq_of_not_reaches {parent parent' : Fin 24 → Option (Fin 24)} {t : Fin 24}
    (hp : ∀ x, x ≠ t → parent' x = parent x) {k fuel : Nat} (hk : k ≤ fuel) {x : Fin 24}
    (h : reaches parent fuel x t = false) : climb parent' k x = climb parent k x := by
  induction k generalizing fuel x with
  | zero => rfl
  | succ k ih =>
    obtain ⟨fuel, rfl⟩ : ∃ n, fuel = n + 1 := ⟨fuel - 1, by omega⟩
    simp only [reaches, Bool.or_eq_false_iff, decide_eq_false_iff_not] at h
    obtain ⟨hne, hup⟩ := h
    rw [climb, climb, hp x hne]
    cases hpx : parent x with
    | none => rfl
    | some y =>
      rw [hpx] at hup
      exact ih (by omega) hup

/-- Taking a parent link away makes no chain longer. -/
theorem climb_eq_none_of_cut {parent parent' : Fin 24 → Option (Fin 24)}
    (hp : ∀ x, parent' x = none ∨ parent' x = parent x) {k : Nat} {x : Fin 24} (h : climb parent k x = none) :
    climb parent' k x = none := by
  induction k generalizing x with
  | zero => exact h
  | succ k ih =>
    rw [climb] at h ⊢
    rcases hp x with hx | hx <;> rw [hx]
    · rfl
    · cases hpx : parent x with
      | none => rfl
      | some y =>
        rw [hpx] at h
        exact ih h

theorem chainsBounded_iff (d : Device) :
    d.chainsBounded ↔ (∀ x p, d.parentOf x = some p → d.timers[p].isSome) ∧ ∀ x, climb d.parentOf 4 x = none := by
  simp only [Device.chainsBounded, climb_four]

/-! ### Sources and parent links -/

/-- The parent that a source names, if it names one (R22). -/
def TimerSource.parentLink : TimerSource → Option (Fin 24)
  | .parent p => some p
  | .time _ => none
  | .input _ _ => none

theorem parentOf_eq (d : Device) (x : Fin 24) : d.parentOf x = d.timers[x].bind fun r => r.source.parentLink := by
  unfold Device.parentOf
  cases d.timers[x] with
  | none => rfl
  | some r => simp only [Option.bind_some]; cases r.source <;> rfl

/-- What the chains depend on is the same: which timers are defined, and their parent links. -/
structure Device.SameChains (d d' : Device) : Prop where
  defined : ∀ t : Fin 24, d'.timers[t].isSome = d.timers[t].isSome
  parent : ∀ t, d'.parentOf t = d.parentOf t

theorem Device.SameChains.chainsBounded {d d' : Device} (h : d.SameChains d') (hd : d.chainsBounded) :
    d'.chainsBounded := by
  have hp : d'.parentOf = d.parentOf := funext h.parent
  rw [chainsBounded_iff] at *
  simpa only [h.defined, hp] using hd

theorem sameChains_of_timers {d d' : Device} (h : d'.timers = d.timers) : d.SameChains d' :=
  ⟨fun t => by rw [h], fun t => by rw [parentOf_eq, parentOf_eq, h]⟩

/-- The work of an expiry keeps every timer's definition (R20). -/
theorem TimerWork.sameChains {d d' : Device} (h : TimerWork d d') : d.SameChains d' := by
  refine ⟨h.sameClaims.defined, fun t => ?_⟩
  rw [parentOf_eq, parentOf_eq]
  cases ht : d.timers[t] with
  | none =>
    have hnone : d'.timers[t] = none := by
      have := h.sameClaims.defined t
      rw [ht] at this
      simpa using this
    rw [hnone]
  | some r =>
    obtain ⟨r', hr', -, hs⟩ := h.timers_kept ht
    rw [hr', Option.bind_some, Option.bind_some, hs]

theorem TimerWorks.chainsBounded {d d' : Device} (h : TimerWorks d d') (hd : d.chainsBounded) : d'.chainsBounded := by
  induction h with
  | refl => exact hd
  | tail _ h ih => exact h.sameChains.chainsBounded ih

theorem Change.sameChains {d d' : Device} (h : Change d d') : d.SameChains d' := by
  cases h with
  | timer h => exact (TimerWork.change h).sameChains
  | _ => exact sameChains_of_timers rfl

/-! ### Definitions -/

theorem parentOf_of_timers {d d' : Device} {t : Fin 24} {r : Option TimerRec} (h : d'.timers = d.timers.set t r)
    (x : Fin 24) : d'.parentOf x = if x = t then r.bind (fun r => r.source.parentLink) else d.parentOf x := by
  rw [parentOf_eq, h, getElem_set_fin, parentOf_eq]
  split <;> rfl

/-- The checks of a definition that passed: its parent is defined, and the chain checks found no fault (R25, R28). -/
theorem chain_of_timerDefineCheck {d : Device} {t : Fin 24} {r : TimerRec} (h : d.timerDefineCheck t r = .ok) :
    d.parentFree r = false ∧ d.chainCheck t r.source = .ok := by
  unfold Device.timerDefineCheck at h
  split at h
  · cases h
  · next hp =>
    refine ⟨by simpa using hp, ?_⟩
    split at h
    · cases h
    · split at h
      · cases h
      · split at h
        · cases h
        · exact h

/-- The chain checks that passed: the parent lies outside the timer's subtree, which comes no deeper than 4 (R28). -/
theorem chainCheck_parent_ok {d : Device} {t p : Fin 24} (h : d.chainCheck t (.parent p) = .ok) :
    d.inSubtree t p = false ∧ ∀ x, d.inSubtree t x = true → chainDepth (d.parentsWith t p) 24 x ≤ 4 := by
  simp only [Device.chainCheck] at h
  split at h
  · cases h
  · next hloop =>
    split at h
    · cases h
    · next hdeep =>
      refine ⟨by simpa using hloop, fun x hx => ?_⟩
      by_contra hlt
      refine hdeep (List.any_eq_true.mpr ⟨x, List.mem_finRange x, ?_⟩)
      rw [hx, Bool.true_and, decide_eq_true_eq]
      exact Nat.not_le.mp hlt

/-- An accepted definition keeps the chains bounded: those that reach the timer by the depth check, the others as they
stood (R28). -/
theorem defineTimer_chainsBounded {d : Device} {t : Fin 24} {r : TimerRec} (hc : d.timerDefineCheck t r = .ok)
    (h : d.chainsBounded) : (d.defineTimer t r).chainsBounded := by
  obtain ⟨hfree, hcheck⟩ := chain_of_timerDefineCheck hc
  have htimers := defineTimer_timers t r d
  have hparent := parentOf_of_timers htimers
  have hdefined : ∀ p : Fin 24, d.timers[p].isSome → (d.defineTimer t r).timers[p].isSome := fun p hp => by
    rw [htimers, getElem_set_fin]
    split
    · rfl
    · exact hp
  rw [chainsBounded_iff] at h ⊢
  obtain ⟨hdef, hdepth⟩ := h
  cases hs : r.source with
  | parent p =>
    have hp : d.timers[p].isSome := by simpa [Device.parentFree, hs, Option.isNone_eq_false_iff] using hfree
    rw [hs] at hcheck
    obtain ⟨-, hdeep⟩ := chainCheck_parent_ok hcheck
    have hlink : (d.defineTimer t r).parentOf = d.parentsWith t p := funext fun x => by
      rw [hparent, Device.parentsWith, Option.bind_some, hs]
      rfl
    rw [hlink]
    refine ⟨fun x q hq => ?_, fun x => ?_⟩
    · rw [Device.parentsWith] at hq
      split at hq
      · exact hdefined q (Option.some.inj hq ▸ hp)
      · exact hdefined q (hdef x q hq)
    · cases hx : d.inSubtree t x with
      | true => exact climb_eq_none_of_chainDepth (by omega) (hdeep x hx)
      | false =>
        exact (climb_eq_of_not_reaches (parent' := d.parentsWith t p) (fun y hy => if_neg hy) (by omega) hx).trans (hdepth x)
  | _ =>
    have hcut : ∀ x, (d.defineTimer t r).parentOf x = none ∨ (d.defineTimer t r).parentOf x = d.parentOf x := fun x => by
      rw [hparent, Option.bind_some, hs]
      split
      · exact .inl rfl
      · exact .inr rfl
    refine ⟨fun x q hq => ?_, fun x => climb_eq_none_of_cut hcut (hdepth x)⟩
    rcases hcut x with hx | hx <;> rw [hx] at hq
    · cases hq
    · exact hdefined q (hdef x q hq)

/-- A timer that no object names is no timer's parent (R40). -/
theorem parentOf_ne_of_not_referenced {d : Device} {t : Fin 24} (h : d.timerReferenced t = false) (x : Fin 24) :
    d.parentOf x ≠ some t := by
  intro hx
  simp only [Device.timerReferenced, Bool.or_eq_false_iff, List.any_eq_false] at h
  have := h.1 x (List.mem_finRange x)
  rw [parentOf_eq] at hx
  obtain ⟨r, hr, hs⟩ := Option.bind_eq_some_iff.mp hx
  rw [hr] at this
  cases hsrc : r.source <;> rw [hsrc] at hs <;> simp_all [TimerSource.parentLink, TimerRec.childOf]

theorem freeTimer_chainsBounded {d : Device} {t : Fin 24} {r : TimerRec} (href : d.timerReferenced t = false)
    (h : d.chainsBounded) : ((d.releaseClaims r).setTimer t none).chainsBounded := by
  have htimers : ((d.releaseClaims r).setTimer t none).timers = d.timers.set t none := by
    rw [Device.setTimer_timers, (releaseClaims_claimsOnly r d).timers]
  have hcut : ∀ x, ((d.releaseClaims r).setTimer t none).parentOf x = none ∨
      ((d.releaseClaims r).setTimer t none).parentOf x = d.parentOf x := fun x => by
    rw [parentOf_of_timers htimers]
    split
    · exact .inl rfl
    · exact .inr rfl
  rw [chainsBounded_iff] at h ⊢
  obtain ⟨hdef, hdepth⟩ := h
  refine ⟨fun x q hq => ?_, fun x => climb_eq_none_of_cut hcut (hdepth x)⟩
  rcases hcut x with hx | hx <;> rw [hx] at hq
  · cases hq
  · have hqt : q ≠ t := fun hqt => parentOf_ne_of_not_referenced href x (hqt ▸ hq)
    rw [htimers, getElem_set_fin, if_neg hqt]
    exact hdef x q hq

/-! ### Every step -/

theorem Act.chainsBounded {d d' : Device} (h : Act d d') (hd : d.chainsBounded) : d'.chainsBounded := by
  cases h with
  | change h => exact h.sameChains.chainsBounded hd
  | settle h => exact (drainPastDue_works _).chainsBounded (h.chainsBounded hd)
  | defineTimer _ hc => exact defineTimer_chainsBounded hc hd
  | freeTimer _ _ hr => exact freeTimer_chainsBounded hr hd
  | @defineWatch w _ r => exact (sameChains_of_timers (defineWatch_timers w r d)).chainsBounded hd
  | @freeWatch w r =>
    exact (sameChains_of_timers (releaseCheckin_claimsOnly r (d.removeEntry (.watch w))).timers).chainsBounded hd
  | _ => exact (sameChains_of_timers rfl).chainsBounded hd

theorem rekeyEntries_timers (d : Device) : d.rekeyEntries.timers = d.timers :=
  (foldl_insertEntry_lines_timers _ _).2

theorem tick_timers (d : Device) : d.tick.timers = d.timers := by
  unfold Device.tick
  split <;> rfl

theorem Move.chainsBounded {d d' : Device} (h : Move d d') (hd : d.chainsBounded) : d'.chainsBounded := by
  cases h with
  | act h => exact h.chainsBounded hd
  | setWall off =>
    exact (drainPastDue_works _).chainsBounded
      ((sameChains_of_timers (rekeyEntries_timers { d with wallOffset := off })).chainsBounded hd)
  | _ => exact (sameChains_of_timers rfl).chainsBounded hd

theorem initial_chainsBounded (inputs : Vector InputRec 8) (spd : Level) (f : FaultRecord) :
    (Device.initial inputs spd f).chainsBounded := by
  have hparent : (Device.initial inputs spd f).parentOf = fun _ => none := funext fun x => by
    simp [parentOf_eq, Device.initial]
  rw [chainsBounded_iff, hparent]
  exact ⟨fun _ _ => nofun, fun _ => rfl⟩

theorem Progress.chainsBounded {d d' : Device} (h : Progress d d') (hd : d.chainsBounded) : d'.chainsBounded := by
  cases h with
  | move h => exact h.chainsBounded hd
  | tick => exact (sameChains_of_timers (tick_timers d)).chainsBounded hd
  | reset m inputs spd f => exact initial_chainsBounded inputs spd f

/-- Settles O58: only a definition makes a parent link, and its checks bound the chains through it; only a timer that
no other names is freed. -/
theorem chainsStayBounded : Obligations.ChainsStayBounded := by
  unfold Obligations.ChainsStayBounded
  exact fun _ _ hs h => step_keeps (fun _ _ h => h.chainsBounded) hs h

end Sys2Proof.Machine
end

section
/-! Entries and their owners' records, part one: the entries of timers through every operation on timers (R20). -/

namespace Sys2Proof.Machine

/-! ### Which owners have an entry -/

theorem entryOf_isSome {d : Device} {o : Owner} : (d.entryOf o).isSome ↔ ∃ e ∈ d.deadlines, e.owner = o := by
  simp [Device.entryOf]

theorem entryOf_isSome_of_mem {d : Device} {e : Entry} (he : e ∈ d.deadlines) : (d.entryOf e.owner).isSome :=
  entryOf_isSome.mpr ⟨e, he, rfl⟩

@[simp] theorem isSome_entryOf_insertEntry_self (o : Owner) (due : Int) (wall : Option Nat) (d : Device) :
    ((d.insertEntry o due wall).entryOf o).isSome = true := by
  rw [Device.entryOf_insertEntry_self, Option.isSome_some]

theorem foldl_insertEntry_isSome (l : List Entry) (d : Device) (o : Owner) :
    ((l.foldl (fun acc e => acc.insertEntry e.owner e.due e.wall) d).entryOf o).isSome ↔
      (d.entryOf o).isSome ∨ ∃ e ∈ l, e.owner = o := by
  induction l generalizing d with
  | nil => simp
  | cons e l ih =>
    rw [List.foldl_cons, ih, List.exists_mem_cons_iff, ← or_assoc]
    refine or_congr_left ?_
    by_cases h : o = e.owner
    · subst h
      simp
    · rw [Device.entryOf_insertEntry_of_ne h]
      simp [Ne.symm h]

/-- Re-keying takes no owner's entry away and gives none one (R5). -/
theorem rekeyEntries_isSome (d : Device) (o : Owner) :
    (d.rekeyEntries.entryOf o).isSome = (d.entryOf o).isSome := by
  rw [Bool.eq_iff_iff]
  refine (foldl_insertEntry_isSome _ _ o).trans ?_
  rw [entryOf_isSome, entryOf_isSome]
  simp only [(sortEntries_perm _).mem_iff, List.mem_filter, List.mem_map]
  constructor
  · rintro (⟨_, ⟨⟨e, he, rfl⟩, -⟩, ho⟩ | ⟨_, ⟨⟨e, he, rfl⟩, -⟩, ho⟩)
    · exact ⟨e, he, by simpa using ho⟩
    · exact ⟨e, he, by simpa using ho⟩
  · rintro ⟨e, he, ho⟩
    cases hd : d.delayedEntry (e.rekey d.wallOffset d.elapsed) with
    | false => exact .inl ⟨_, ⟨⟨e, he, rfl⟩, by simp [hd]⟩, by simpa using ho⟩
    | true => exact .inr ⟨_, ⟨⟨e, he, rfl⟩, hd⟩, by simpa using ho⟩

/-! ### What leaves the tables and which timers and watches have an entry -/

/-- The records of timers and watches are the same, and the same of them have entries. -/
structure Device.SameSchedule (d d' : Device) : Prop where
  timers : d'.timers = d.timers
  watches : d'.watches = d.watches
  linkWatch : d'.linkWatch = d.linkWatch
  timerEntry : ∀ t, (d'.entryOf (.timer t)).isSome = (d.entryOf (.timer t)).isSome
  watchEntry : ∀ w, (d'.entryOf (.watch w)).isSome = (d.entryOf (.watch w)).isSome

theorem Device.SameSchedule.refl (d : Device) : d.SameSchedule d := ⟨rfl, rfl, rfl, fun _ => rfl, fun _ => rfl⟩

theorem Device.SameSchedule.trans {d₁ d₂ d₃ : Device} (h : d₁.SameSchedule d₂) (h' : d₂.SameSchedule d₃) :
    d₁.SameSchedule d₃ :=
  ⟨h'.timers.trans h.timers, h'.watches.trans h.watches, h'.linkWatch.trans h.linkWatch,
    fun t => (h'.timerEntry t).trans (h.timerEntry t), fun w => (h'.watchEntry w).trans (h.watchEntry w)⟩

theorem sameSchedule_of_deadlines {d d' : Device} (ht : d'.timers = d.timers) (hw : d'.watches = d.watches)
    (hl : d'.linkWatch = d.linkWatch) (he : d'.deadlines = d.deadlines) : d.SameSchedule d' :=
  ⟨ht, hw, hl, fun t => by rw [entryOf_of_deadlines he], fun w => by rw [entryOf_of_deadlines he]⟩

/-- The owner is neither a timer nor a watch. -/
def Owner.other : Owner → Bool
  | .timer _ => false
  | .watch _ => false
  | .pulse _ => true
  | .rstoPulse => true
  | .resend => true

theorem Owner.other_ne {o : Owner} (h : o.other = true) : (∀ t, Owner.timer t ≠ o) ∧ ∀ w, Owner.watch w ≠ o := by
  constructor <;> rintro _ rfl <;> cases h

theorem insertEntry_sameSchedule {o : Owner} (h : o.other = true) (due : Int) (wall : Option Nat) (d : Device) :
    d.SameSchedule (d.insertEntry o due wall) :=
  ⟨rfl, rfl, rfl, fun t => by rw [Device.entryOf_insertEntry_of_ne ((Owner.other_ne h).1 t)],
    fun w => by rw [Device.entryOf_insertEntry_of_ne ((Owner.other_ne h).2 w)]⟩

theorem removeEntry_sameSchedule {o : Owner} (h : o.other = true) (d : Device) : d.SameSchedule (d.removeEntry o) :=
  ⟨rfl, rfl, rfl, fun t => by rw [Device.entryOf_removeEntry_of_ne ((Owner.other_ne h).1 t)],
    fun w => by rw [Device.entryOf_removeEntry_of_ne ((Owner.other_ne h).2 w)]⟩

theorem takeOwner_sameSchedule {o : Owner} (h : o.other = true) (d : Device) : d.SameSchedule (d.takeOwner o) :=
  ⟨rfl, rfl, rfl, fun t => by rw [Device.entryOf_takeOwner_of_ne ((Owner.other_ne h).1 t)],
    fun w => by rw [Device.entryOf_takeOwner_of_ne ((Owner.other_ne h).2 w)]⟩

theorem setLine_sameSchedule (n : Fin 8) (l : LineRec) (d : Device) : d.SameSchedule (d.setLine n l) :=
  sameSchedule_of_deadlines rfl rfl rfl rfl

theorem restLine_sameSchedule (n : Fin 8) (d : Device) : d.SameSchedule (d.restLine n) :=
  (setLine_sameSchedule n _ d).trans (removeEntry_sameSchedule (o := .pulse n) rfl _)

theorem applyEffect_sameSchedule (n : Fin 8) (eff : Effect) (d : Device) : d.SameSchedule (d.applyEffect n eff) := by
  rw [applyEffect_eq]
  cases eff with
  | pulse width =>
    exact (setLine_sameSchedule n _ d).trans (insertEntry_sameSchedule (o := .pulse n) rfl _ _ _)
  | _ => exact setLine_sameSchedule n _ d

theorem rekeyEntries_sameSchedule (d : Device) : d.SameSchedule d.rekeyEntries := by
  have key : ∀ (l : List Entry) (d : Device),
      (l.foldl (fun acc e => acc.insertEntry e.owner e.due e.wall) d).watches = d.watches ∧
      (l.foldl (fun acc e => acc.insertEntry e.owner e.due e.wall) d).linkWatch = d.linkWatch := by
    intro l
    induction l with
    | nil => exact fun _ => ⟨rfl, rfl⟩
    | cons e l ih => exact fun d => ih (d.insertEntry e.owner e.due e.wall)
  exact ⟨rekeyEntries_timers d, (key _ _).1, (key _ _).2, fun _ => rekeyEntries_isSome d _,
    fun _ => rekeyEntries_isSome d _⟩

/-! ### A timer's record and entry -/

/-- The source is TIME (R21). -/
def TimerRec.timed (r : TimerRec) : Prop := ∃ sc, r.source = .time sc

/-- An ABSOLUTE timer has a TIME source (R24). -/
def TimerRec.kindFits (r : TimerRec) : Prop := ∀ due, r.kind = .absolute due → r.timed

/-- Timer t has an entry exactly while it is RUNNING with source TIME, and an ABSOLUTE one has that source. -/
def Device.timerSound (t : Fin 24) (d : Device) : Prop :=
  ((d.entryOf (.timer t)).isSome ↔ ∃ r, d.timers[t] = some r ∧ r.state = .running ∧ r.timed) ∧
  ∀ r, d.timers[t] = some r → r.kindFits

theorem timersScheduled_iff (d : Device) : d.timersScheduled ↔ ∀ t, d.timerSound t := by
  simp only [Device.timersScheduled, Device.timerSound, TimerRec.timed, TimerRec.kindFits, exists_and_left]
  refine forall_congr' fun t => and_congr Iff.rfl ?_
  exact ⟨fun h r hr due => h r due hr, fun h r due hr => h r hr due⟩

theorem timerSound_congr {d d' : Device} {t : Fin 24} (hr : d'.timers[t] = d.timers[t])
    (he : (d'.entryOf (.timer t)).isSome = (d.entryOf (.timer t)).isSome) : d'.timerSound t ↔ d.timerSound t := by
  rw [Device.timerSound, hr, he, Device.timerSound]

theorem timerSound_of_some {d : Device} {t : Fin 24} {r : TimerRec} (h : d.timers[t] = some r) :
    d.timerSound t ↔ ((d.entryOf (.timer t)).isSome ↔ r.state = .running ∧ r.timed) ∧ r.kindFits := by
  simp [Device.timerSound, h, -Fin.getElem_fin]

theorem timerSound_of_none {d : Device} {t : Fin 24} (h : d.timers[t] = none) :
    d.timerSound t ↔ d.entryOf (.timer t) = none := by
  simp [Device.timerSound, h, -Fin.getElem_fin]

theorem Device.SameSchedule.timersScheduled {d d' : Device} (h : d.SameSchedule d') (hd : d.timersScheduled) :
    d'.timersScheduled := by
  rw [timersScheduled_iff] at *
  exact fun t => (timerSound_congr (by rw [h.timers]) (h.timerEntry t)).mpr (hd t)

/-- Every timer but t has its entry as R20 says. -/
def Device.othersSound (t : Fin 24) (d : Device) : Prop := ∀ u, u ≠ t → d.timerSound u

theorem Device.timersScheduled.others {d : Device} (h : d.timersScheduled) (t : Fin 24) : d.othersSound t :=
  fun u _ => (timersScheduled_iff d).mp h u

theorem Device.othersSound.timersScheduled {d : Device} {t : Fin 24} (h : d.othersSound t) (ht : d.timerSound t) :
    d.timersScheduled :=
  (timersScheduled_iff d).mpr fun u => if hu : u = t then hu ▸ ht else h u hu

section
variable {d : Device} {t : Fin 24} (h : d.othersSound t)
include h

theorem Device.othersSound.setTimer (r : Option TimerRec) : (d.setTimer t r).othersSound t := fun u hu =>
  (timerSound_congr (d := d) (by rw [Device.setTimer_timers, getElem_set_fin, if_neg hu]) (by rfl)).mpr (h u hu)

theorem Device.othersSound.insertEntry (due : Int) (wall : Option Nat) :
    (d.insertEntry (.timer t) due wall).othersSound t := fun u hu =>
  (timerSound_congr (by rfl) (by rw [Device.entryOf_insertEntry_of_ne (by simpa using hu)])).mpr (h u hu)

theorem Device.othersSound.removeEntry : (d.removeEntry (.timer t)).othersSound t := fun u hu =>
  (timerSound_congr (by rfl) (by rw [Device.entryOf_removeEntry_of_ne (by simpa using hu)])).mpr (h u hu)

theorem Device.othersSound.takeOwner : (d.takeOwner (.timer t)).othersSound t := fun u hu =>
  (timerSound_congr (by rfl) (by rw [Device.entryOf_takeOwner_of_ne (by simpa using hu)])).mpr (h u hu)

/-- A new record of timer t, where its entry is as the record wants it. -/
theorem Device.othersSound.setTimer_scheduled {r : TimerRec}
    (he : (d.entryOf (.timer t)).isSome ↔ r.state = .running ∧ r.timed) (hk : r.kindFits) :
    (d.setTimer t (some r)).timersScheduled :=
  (h.setTimer (some r)).timersScheduled ((timerSound_of_some (by simp)).mpr ⟨he, hk⟩)

/-- A new record of timer t, RUNNING with source TIME, with a new entry. -/
theorem Device.othersSound.insert_scheduled {r : TimerRec} (hr : r.state = .running) (ht : r.timed) (due : Int)
    (wall : Option Nat) : ((d.setTimer t (some r)).insertEntry (.timer t) due wall).timersScheduled :=
  ((h.setTimer (some r)).insertEntry due wall).timersScheduled
    ((timerSound_of_some (by simp)).mpr ⟨by simp [hr, ht], fun _ _ => ht⟩)

/-- A new record of timer t that wants no entry, where it has none. -/
theorem Device.othersSound.idle_scheduled {r : TimerRec} (hr : ¬ (r.state = .running ∧ r.timed)) (hk : r.kindFits)
    (he : d.entryOf (.timer t) = none) : (d.setTimer t (some r)).timersScheduled :=
  h.setTimer_scheduled (by simp [he, hr]) hk

end

/-! ### Operations on timers -/

theorem not_timed_of_parent {r : TimerRec} {p : Fin 24} (h : r.source = .parent p) : ¬ r.timed := by
  rintro ⟨sc, hs⟩
  rw [h] at hs
  cases hs

theorem not_timed_of_input {r : TimerRec} {n : Fin 8} {e : Edge} (h : r.source = .input n e) : ¬ r.timed := by
  rintro ⟨sc, hs⟩
  rw [h] at hs
  cases hs

/-- A timer that does not run on time has no entry. -/
theorem Device.timersScheduled.entryOf_eq_none {d : Device} (h : d.timersScheduled) {t : Fin 24} {r : TimerRec}
    (ht : d.timers[t] = some r) (hr : ¬ (r.state = .running ∧ r.timed)) : d.entryOf (.timer t) = none := by
  have hs := ((timerSound_of_some ht).mp ((timersScheduled_iff d).mp h t)).1
  simpa [hr] using hs

theorem Device.timersScheduled.kindFits {d : Device} (h : d.timersScheduled) {t : Fin 24} {r : TimerRec}
    (ht : d.timers[t] = some r) : r.kindFits :=
  ((timerSound_of_some ht).mp ((timersScheduled_iff d).mp h t)).2

theorem beginTimer_scheduled {d : Device} {t : Fin 24} {r : TimerRec} (ht : d.timers[t] = some r)
    (h : d.timersScheduled) : (d.beginTimer t r).timersScheduled := by
  have hk := h.kindFits ht
  have hcounted : ¬ r.timed → (d.setTimer t (some { r with state := .running, remaining := r.period })).timersScheduled :=
    fun hc => (h.others t).idle_scheduled (fun hr => hc hr.2) hk (h.entryOf_eq_none ht fun hr => hc hr.2)
  have hrun : r.timed → ∀ due wall, ((d.setTimer t (some { r with state := .running, remaining := r.period })).insertEntry
      (.timer t) due wall).timersScheduled := fun hc => (h.others t).insert_scheduled rfl hc
  unfold Device.beginTimer Device.scheduleStart
  split
  · next hdue => exact hrun (hk _ hdue) _ _
  · next sc _ hs => exact hrun ⟨sc, hs⟩ _ _
  · next hs => exact hcounted (not_timed_of_parent hs)
  · next hs => exact hcounted (not_timed_of_input hs)

theorem triggerTimer_scheduled {d : Device} (t : Fin 24) (h : d.timersScheduled) : (d.triggerTimer t).timersScheduled := by
  unfold Device.triggerTimer
  split
  · exact h
  · next ht =>
    split
    · exact h
    · exact beginTimer_scheduled ht h
    · exact beginTimer_scheduled ht h

theorem stopTimer_scheduled {d : Device} {t : Fin 24} {r : TimerRec} (ht : d.timers[t] = some r)
    (h : d.timersScheduled) : (d.stopTimer t r).timersScheduled := by
  have hk := h.kindFits ht
  have hstop : ((d.removeEntry (.timer t)).setTimer t
      (some { r with state := .idle, remaining := r.period })).timersScheduled :=
    (h.others t).removeEntry.idle_scheduled nofun hk (by simp)
  unfold Device.stopTimer
  dsimp only
  split
  · exact (restLine_sameSchedule _ _).timersScheduled hstop
  · exact hstop

theorem pauseTimer_scheduled {d : Device} {t : Fin 24} {r : TimerRec} (ht : d.timers[t] = some r)
    (h : d.timersScheduled) : (d.pauseTimer t r).timersScheduled := by
  have hk := h.kindFits ht
  have hcounted : ¬ r.timed → (d.setTimer t (some { r with state := .paused })).timersScheduled := fun hc =>
    (h.others t).idle_scheduled nofun hk (h.entryOf_eq_none ht fun hr => hc hr.2)
  unfold Device.pauseTimer
  split
  · next sc _ =>
    exact (h.others t).removeEntry.idle_scheduled (r := { r with state := .paused, remaining := d.timerUnitsLeft t sc })
      nofun hk (by simp)
  · next hs => exact hcounted (not_timed_of_parent hs)
  · next hs => exact hcounted (not_timed_of_input hs)

theorem resumeTimer_scheduled {d : Device} {t : Fin 24} {r : TimerRec} (ht : d.timers[t] = some r)
    (h : d.timersScheduled) : (d.resumeTimer t r).timersScheduled := by
  have hk := h.kindFits ht
  have hcounted : ¬ r.timed → (d.setTimer t (some { r with state := .running })).timersScheduled := fun hc =>
    (h.others t).idle_scheduled (fun hr => hc hr.2) hk (h.entryOf_eq_none ht fun hr => hc hr.2)
  unfold Device.resumeTimer
  dsimp only
  split
  · next sc hs => exact (h.others t).insert_scheduled (r := { r with state := .running }) rfl ⟨sc, hs⟩ _ _
  · next hs => exact hcounted (not_timed_of_parent hs)
  · next hs => exact hcounted (not_timed_of_input hs)

/-! ### Expiry -/

/-- What an expiry of timer t starts from: t, if defined, is RUNNING and has no entry, which the engine has taken or a
counted timer never has; every other timer has its entry as R20 says. -/
structure Device.Expiring (t : Fin 24) (d : Device) : Prop where
  others : d.othersSound t
  noEntry : d.entryOf (.timer t) = none
  running : ∀ r, d.timers[t] = some r → r.state = .running ∧ r.kindFits

/-- The hand-over of a timer's entry (R11): only a RUNNING timer has one. -/
theorem expiring_takeOwner {d : Device} {t : Fin 24} (he : (d.entryOf (.timer t)).isSome) (h : d.timersScheduled) :
    (d.takeOwner (.timer t)).Expiring t where
  others := (h.others t).takeOwner
  noEntry := by simp
  running r hr := by
    have ht : d.timers[t] = some r := hr
    have hs := ((timerSound_of_some ht).mp ((timersScheduled_iff d).mp h t)).1.mp he
    exact ⟨hs.1, h.kindFits ht⟩

/-- A RUNNING counted timer has no entry. -/
theorem expiring_counted {d : Device} {t : Fin 24} {r : TimerRec} (ht : d.timers[t] = some r) (hr : r.state = .running)
    (hc : ¬ r.timed) (h : d.timersScheduled) : d.Expiring t where
  others := h.others t
  noEntry := h.entryOf_eq_none ht fun hr => hc hr.2
  running r' hr' := by
    obtain rfl := Option.some.inj (ht.symm.trans hr')
    exact ⟨hr, h.kindFits ht⟩

/-- The continuation gives the timer the entry that its new state wants (R47 to R51). -/
theorem continueTimer_scheduled {d : Device} {t : Fin 24} {r : TimerRec} (h : d.othersSound t)
    (he : d.entryOf (.timer t) = none) (hr : r.state = .running) (hk : r.kindFits) (due : Int) :
    (d.continueTimer t r due).timersScheduled := by
  have hidle : (d.finishTimer t r).timersScheduled := h.idle_scheduled nofun hk he
  have hcounted : ¬ r.timed → (d.setTimer t (some { r with remaining := r.period })).timersScheduled := fun hc =>
    h.idle_scheduled (fun hr => hc hr.2) hk he
  unfold Device.continueTimer
  split
  · exact hidle
  · split
    · next hold =>
      dsimp only
      split
      · exact hidle
      · exact h.insert_scheduled (r := { r with kind := .absolute _ }) hr (hk _ hold) _ _
    · next sc _ hs => exact h.insert_scheduled hr ⟨sc, hs⟩ _ _
    · next hs => exact hcounted (not_timed_of_parent hs)
    · next hs => exact hcounted (not_timed_of_input hs)

theorem expiryStages_scheduled {d : Device} {t : Fin 24} {r : TimerRec} (h : d.Expiring t) (ht : d.timers[t] = some r)
    (due : Int) (pastDue : Bool) : (d.expiryStages t r due pastDue).timersScheduled := by
  obtain ⟨hr, hk⟩ := h.running r ht
  have hcontinue := continueTimer_scheduled (r := r.counted (d.isLate r pastDue)) h.others h.noEntry hr hk due
  have hout : ∀ d' : Device, d'.SameSchedule (d'.outputStage (r.counted (d.isLate r pastDue))) := fun d' => by
    unfold Device.outputStage
    split
    · exact applyEffect_sameSchedule _ _ d'
    · exact .refl d'
  have hnotice : ∀ d' : Device, d'.SameSchedule
      (d'.noticeStage t (r.counted (d.isLate r pastDue)) (d.isLate r pastDue) (d.missedCount r)) := fun d' => by
    unfold Device.noticeStage
    split
    · exact sameSchedule_of_deadlines rfl rfl rfl rfl
    · exact .refl d'
  have hacted := ((hout _).trans (hnotice _)).timersScheduled hcontinue
  unfold Device.expiryStages Device.triggerStage
  dsimp only
  split
  · exact triggerTimer_scheduled _ hacted
  · exact hacted

/-- One count of a RUNNING counted timer, with the expiry that its last count runs (R59, R61). -/
theorem takeCount_scheduled {f : Device → Device} {c : Fin 24}
    (hf : ∀ d : Device, d.timersScheduled → d.Expiring c → (f d).timersScheduled) {d : Device} {r : TimerRec}
    (hc : d.timers[c] = some r) (hr : r.state = .running) (ht : ¬ r.timed) (h : d.timersScheduled) :
    (d.takeCount f c r).timersScheduled := by
  have hk := h.kindFits hc
  have hcount : (d.setTimer c (some { r with remaining := r.remaining - 1 })).timersScheduled :=
    (h.others c).idle_scheduled (fun hr => ht hr.2) hk (h.entryOf_eq_none hc fun hr => ht hr.2)
  unfold Device.takeCount
  dsimp only
  split
  · refine hf _ hcount ?_
    exact expiring_counted (r := { r with remaining := r.remaining - 1 }) (by simp) hr ht hcount
  · exact hcount

theorem offerCount_scheduled {f : Device → Device} {c : Fin 24}
    (hf : ∀ d : Device, d.timersScheduled → d.Expiring c → (f d).timersScheduled) (parent : Fin 24) {d : Device}
    (h : d.timersScheduled) : (d.offerCount f parent c).timersScheduled := by
  unfold Device.offerCount
  split
  · exact h
  · next hc =>
    split
    · next hchild =>
      exact takeCount_scheduled hf hc hchild.2 (not_timed_of_parent (by simpa [TimerRec.childOf] using hchild.1)) h
    · exact h

/-- An expiry leaves every timer with its entry as R20 says, given fuel for one expiry or the timer's entry as it should
be. -/
theorem expire_scheduled (fuel : Nat) (t : Fin 24) (due : Int) (pastDue : Bool) {d : Device} (h : d.Expiring t)
    (h0 : fuel = 0 → d.timersScheduled) : (expire fuel t due pastDue d).timersScheduled := by
  induction fuel generalizing t due pastDue d with
  | zero => exact h0 rfl
  | succ fuel ih =>
    unfold expire
    split
    · next ht => exact h.others.timersScheduled ((timerSound_of_none ht).mpr h.noEntry)
    · next ht =>
      refine List.foldlRecOn _ _ (expiryStages_scheduled h ht due pastDue) fun d' hd' c _ => ?_
      exact offerCount_scheduled (fun d' hd' he => ih c _ false he fun _ => hd') t hd'

theorem expireTimer_scheduled {t : Fin 24} {d : Device} (h : d.Expiring t) (due : Int) (pastDue : Bool) :
    (d.expireTimer t due pastDue).timersScheduled :=
  expire_scheduled 24 t due pastDue h nofun

theorem countEdge_scheduled (t : Fin 24) (level : Level) {d : Device} (h : d.timersScheduled) :
    (d.countEdge t level).timersScheduled := by
  unfold Device.countEdge
  split
  · exact h
  · next ht =>
    split
    · next hs hr =>
      split
      · exact takeCount_scheduled (fun _ _ he => expireTimer_scheduled he _ _) ht hr (not_timed_of_input hs) h
      · exact h
    all_goals exact h

theorem stopEdge_scheduled (t : Fin 24) {d : Device} (h : d.timersScheduled) : (d.stopEdge t).timersScheduled := by
  unfold Device.stopEdge
  split
  · exact h
  · next ht =>
    split
    · exact h
    · exact stopTimer_scheduled ht h
    · exact stopTimer_scheduled ht h

/-! ### Definitions -/

theorem releaseClaims_sameSchedule (r : TimerRec) (d : Device) : d.SameSchedule (d.releaseClaims r) := by
  have hline : ∀ n, d.SameSchedule (d.releaseBinding n) := fun n =>
    (restLine_sameSchedule n d).trans (setLine_sameSchedule n _ _)
  unfold Device.releaseClaims
  cases r.output with
  | none => cases r.source <;> exact sameSchedule_of_deadlines rfl rfl rfl rfl
  | some a =>
    cases r.source with
    | input n e => exact (hline a.line).trans (sameSchedule_of_deadlines rfl rfl rfl rfl)
    | _ => exact hline a.line

theorem takeClaims_sameSchedule (t : Fin 24) (r : TimerRec) (d : Device) : d.SameSchedule (d.takeClaims t r) := by
  unfold Device.takeClaims
  cases r.output <;> cases r.source <;> exact sameSchedule_of_deadlines rfl rfl rfl rfl

theorem forgetTimer_sameSchedule (t : Fin 24) (d : Device) : d.SameSchedule (d.forgetTimer t) := by
  unfold Device.forgetTimer
  split
  · exact releaseClaims_sameSchedule _ d
  · exact .refl d

/-- What a definition stores is IDLE, and ABSOLUTE with a TIME source alone (R24, R29). -/
theorem parseTimer_idle_fits {t : Fin 24} {p : List Byte} {r : TimerRec} (h : parseTimer t p = some r) :
    r.state = .idle ∧ r.kindFits := by
  unfold parseTimer at h
  split at h
  · cases h
  · split at h
    · next source _ _ _ _ _ _ _ =>
      obtain ⟨kind, hkind, rfl⟩ := Option.map_eq_some_iff.mp h
      refine ⟨rfl, fun due hdue => ?_⟩
      obtain rfl : kind = .absolute due := hdue
      unfold parseTimerKind at hkind
      split at hkind
      · split at hkind <;> cases hkind
      · exact ⟨_, rfl⟩
      · cases hkind
    · cases h

/-- A timer that is not RUNNING or PAUSED has no entry. -/
theorem entryOf_eq_none_of_not_busy {d : Device} {t : Fin 24} (hb : d.timerBusy t = false) (h : d.timersScheduled) :
    d.entryOf (.timer t) = none := by
  cases ht : d.timers[t] with
  | none => exact (timerSound_of_none ht).mp ((timersScheduled_iff d).mp h t)
  | some r =>
    refine h.entryOf_eq_none ht fun hr => ?_
    simp [Device.timerBusy, ht, hr.1, -Fin.getElem_fin] at hb

theorem not_busy_of_timerDefineCheck {d : Device} {t : Fin 24} {r : TimerRec} (h : d.timerDefineCheck t r = .ok) :
    d.timerBusy t = false := by
  unfold Device.timerDefineCheck at h
  split at h
  · cases h
  · split at h
    · cases h
    · split at h
      · cases h
      · split at h
        · cases h
        · next hb => simpa using hb

theorem defineTimer_scheduled {d : Device} {t : Fin 24} {p : List Byte} {r : TimerRec} (hp : parseTimer t p = some r)
    (hc : d.timerDefineCheck t r = .ok) (h : d.timersScheduled) : (d.defineTimer t r).timersScheduled := by
  obtain ⟨hidle, hk⟩ := parseTimer_idle_fits hp
  have hf := forgetTimer_sameSchedule t d
  have he : (d.forgetTimer t).entryOf (.timer t) = none := by
    have := hf.timerEntry t
    rw [entryOf_eq_none_of_not_busy (not_busy_of_timerDefineCheck hc) h] at this
    simpa using this
  refine (takeClaims_sameSchedule t r _).timersScheduled ?_
  exact ((hf.timersScheduled h).others t).idle_scheduled (fun hr => by rw [hidle] at hr; cases hr.1) hk he

theorem freeTimer_scheduled {d : Device} {t : Fin 24} {r : TimerRec} (ht : d.timers[t] = some r) (hi : r.state = .idle)
    (h : d.timersScheduled) : ((d.releaseClaims r).setTimer t none).timersScheduled := by
  have hf := releaseClaims_sameSchedule r d
  have he : (d.releaseClaims r).entryOf (.timer t) = none := by
    have := hf.timerEntry t
    rw [h.entryOf_eq_none ht fun hr => by rw [hi] at hr; cases hr.1] at this
    simpa using this
  exact (((hf.timersScheduled h).others t).setTimer none).timersScheduled ((timerSound_of_none (by simp)).mpr he)

end Sys2Proof.Machine
end

section
/-! Entries and their owners' records, part two: the entries of watches, and watch 0's table, through every operation on
watches (R65, R105, R111, R112). -/

namespace Sys2Proof.Machine

/-! ### A watch's record and entry -/

/-- The states in which a watch has an entry (R65). -/
def WatchRec.supervised (w : Fin 16) (lw : LinkWatch) (r : WatchRec) : Prop :=
  r.state = .running ∨ r.state = .warn ∨ r.state = .releasing ∨ (r.state = .tripped ∧ w = 0 ∧ lw.lockout = false)

/-- The fixed fields of watch 0, and what its period code gives (Table 6-1, R105). -/
structure LinkWatch.Terms (lw : LinkWatch) (r : WatchRec) : Prop where
  source : r.source = .link
  minInterval : r.minInterval = 0
  settle : r.settle = 100
  grace : r.grace = r.period
  period : [250, 1000, 4000, 16000][lw.periodCode.val]? = some r.period
  width : 10 ≤ lw.rstoWidth ∧ lw.rstoWidth ≤ 250

/-- Watch 0's trip count and LOCKOUT by its state, which is active (R105, R111, R112). -/
structure LinkWatch.Counts (lw : LinkWatch) (st : WatchState) : Prop where
  active : st ≠ .dormant
  bound : lw.consecutive ≤ 3
  calm : st = .running ∨ st = .warn → lw.consecutive = 0 ∧ lw.lockout = false
  held : st = .tripped ∨ st = .releasing → 0 < lw.consecutive ∧ (lw.lockout = true ↔ lw.consecutive = 3)

theorem linkWatchKept_iff (d : Device) :
    d.linkWatchKept ↔ ∃ r, d.watches[(0 : Fin 16)] = some r ∧ d.linkWatch.Terms r ∧ d.linkWatch.Counts r.state := by
  constructor
  · rintro ⟨r, h1, h2, h3, h4, h5, h6, h7, h8, h9, h10, h11⟩
    exact ⟨r, h1, ⟨h3, h4, h5, h6, h7, h8⟩, ⟨h2, h9, h10, h11⟩⟩
  · rintro ⟨r, h1, ⟨h3, h4, h5, h6, h7, h8⟩, ⟨h2, h9, h10, h11⟩⟩
    exact ⟨r, h1, h2, h3, h4, h5, h6, h7, h8, h9, h10, h11⟩

/-- Watch w has an entry exactly where its state calls for one, and watch 0 keeps to its table. -/
def Device.watchSound (w : Fin 16) (d : Device) : Prop :=
  ((d.entryOf (.watch w)).isSome ↔ ∃ r, d.watches[w] = some r ∧ r.supervised w d.linkWatch) ∧
  (w = 0 → ∃ r, d.watches[w] = some r ∧ d.linkWatch.Terms r ∧ d.linkWatch.Counts r.state)

/-- The two invariants of the watches, watch by watch. -/
def Device.watchesKept (d : Device) : Prop := ∀ w, d.watchSound w

theorem watchesKept_iff (d : Device) : d.watchesKept ↔ d.watchesScheduled ∧ d.linkWatchKept := by
  rw [linkWatchKept_iff]
  constructor
  · exact fun h => ⟨fun w => (h w).1, (h 0).2 rfl⟩
  · rintro ⟨h1, h2⟩ w
    exact ⟨h1 w, fun hw => hw ▸ h2⟩

/-- What the soundness of watch w reads: its record, watch 0's own fields, and whether it has an entry. -/
structure Device.Stands (w : Fin 16) (r : WatchRec) (lw : LinkWatch) (entry : Bool) (d : Device) : Prop where
  record : d.watches[w] = some r
  linkWatch : d.linkWatch = lw
  entry : (d.entryOf (.watch w)).isSome = entry

/-- The soundness of a watch, by what it reads. -/
def WatchRec.fits (w : Fin 16) (lw : LinkWatch) (entry : Bool) (r : WatchRec) : Prop :=
  (entry = true ↔ r.supervised w lw) ∧ (w = 0 → lw.Terms r ∧ lw.Counts r.state)

theorem Device.Stands.watchSound_iff {d : Device} {w : Fin 16} {r : WatchRec} {lw : LinkWatch} {entry : Bool}
    (h : d.Stands w r lw entry) : d.watchSound w ↔ r.fits w lw entry := by
  obtain ⟨hr, rfl, rfl⟩ := h
  simp [Device.watchSound, WatchRec.fits, hr, -Fin.getElem_fin]

theorem stands_of_some {d : Device} {w : Fin 16} {r : WatchRec} (h : d.watches[w] = some r) :
    d.Stands w r d.linkWatch (d.entryOf (.watch w)).isSome := ⟨h, rfl, rfl⟩

theorem watchSound_of_none {d : Device} {w : Fin 16} (hw : w ≠ 0) (h : d.watches[w] = none)
    (he : d.entryOf (.watch w) = none) : d.watchSound w := by
  simp [Device.watchSound, h, he, hw, -Fin.getElem_fin]

/-! ### What an operation on one watch leaves -/

/-- An operation on watch w: timers, the other watches and their entries are as they were, and watch 0's own fields
where w is another. -/
structure Device.OnlyWatch (w : Fin 16) (d d' : Device) : Prop where
  timers : d'.timers = d.timers
  timerEntry : ∀ t, (d'.entryOf (.timer t)).isSome = (d.entryOf (.timer t)).isSome
  watches : ∀ u, u ≠ w → d'.watches[u] = d.watches[u]
  watchEntry : ∀ u, u ≠ w → (d'.entryOf (.watch u)).isSome = (d.entryOf (.watch u)).isSome
  linkWatch : w ≠ 0 → d'.linkWatch = d.linkWatch

section
variable {w : Fin 16}

theorem Device.OnlyWatch.trans {d₁ d₂ d₃ : Device} (h : Device.OnlyWatch w d₁ d₂) (h' : Device.OnlyWatch w d₂ d₃) :
    Device.OnlyWatch w d₁ d₃ :=
  ⟨h'.timers.trans h.timers, fun t => (h'.timerEntry t).trans (h.timerEntry t),
    fun u hu => (h'.watches u hu).trans (h.watches u hu), fun u hu => (h'.watchEntry u hu).trans (h.watchEntry u hu),
    fun hw => (h'.linkWatch hw).trans (h.linkWatch hw)⟩

theorem Device.SameSchedule.onlyWatch {d d' : Device} (h : d.SameSchedule d') : Device.OnlyWatch w d d' :=
  ⟨h.timers, h.timerEntry, fun u _ => by rw [h.watches], fun u _ => h.watchEntry u, fun _ => h.linkWatch⟩

theorem setWatch_onlyWatch (r : Option WatchRec) (d : Device) : Device.OnlyWatch w d (d.setWatch w r) :=
  ⟨rfl, fun _ => rfl, fun u hu => by rw [Device.setWatch_watches, getElem_set_fin, if_neg hu], fun _ _ => rfl,
    fun _ => rfl⟩

theorem insertEntry_onlyWatch (due : Int) (wall : Option Nat) (d : Device) :
    Device.OnlyWatch w d (d.insertEntry (.watch w) due wall) :=
  ⟨rfl, fun t => by rw [Device.entryOf_insertEntry_of_ne (by simp)], fun _ _ => rfl,
    fun u hu => by rw [Device.entryOf_insertEntry_of_ne (by simpa using hu)], fun _ => rfl⟩

theorem removeEntry_onlyWatch (d : Device) : Device.OnlyWatch w d (d.removeEntry (.watch w)) :=
  ⟨rfl, fun t => by rw [Device.entryOf_removeEntry_of_ne (by simp)], fun _ _ => rfl,
    fun u hu => by rw [Device.entryOf_removeEntry_of_ne (by simpa using hu)], fun _ => rfl⟩

theorem takeOwner_onlyWatch (d : Device) : Device.OnlyWatch w d (d.takeOwner (.watch w)) :=
  ⟨rfl, fun t => by rw [Device.entryOf_takeOwner_of_ne (by simp)], fun _ _ => rfl,
    fun u hu => by rw [Device.entryOf_takeOwner_of_ne (by simpa using hu)], fun _ => rfl⟩

theorem linkWatch_onlyWatch (lw : LinkWatch) (hw : w = 0) (d : Device) :
    Device.OnlyWatch w d { d with linkWatch := lw } :=
  ⟨rfl, fun _ => rfl, fun _ _ => rfl, fun _ _ => rfl, fun h => absurd hw h⟩

/-- Where an operation touches one watch, all the others stay sound. -/
theorem Device.OnlyWatch.watchesKept {d d' : Device} (h : Device.OnlyWatch w d d') (hd : d.watchesKept)
    (hw : d'.watchSound w) : d'.watchesKept := by
  intro u
  by_cases hu : u = w
  · exact hu ▸ hw
  · obtain ⟨h1, h2⟩ := hd u
    by_cases hl : d'.linkWatch = d.linkWatch
    · rw [Device.watchSound, h.watches u hu, h.watchEntry u hu, hl]
      exact ⟨h1, h2⟩
    · have hw0 : w = 0 := by
        by_contra hw0
        exact hl (h.linkWatch hw0)
      have hu0 : u ≠ 0 := fun h => hu (h.trans hw0.symm)
      rw [Device.watchSound, h.watches u hu, h.watchEntry u hu]
      refine ⟨h1.trans ?_, fun h => absurd h hu0⟩
      simp only [WatchRec.supervised, hu0, false_and, and_false]

theorem Device.OnlyWatch.timersScheduled {d d' : Device} (h : Device.OnlyWatch w d d') (hd : d.timersScheduled) :
    d'.timersScheduled := by
  rw [timersScheduled_iff] at *
  exact fun t => (timerSound_congr (by rw [h.timers]) (h.timerEntry t)).mpr (hd t)

end

/-! ### The escalation rules -/

/-- The fields that a watch's definition gives, but for its hold set, are the same. -/
structure WatchRec.SameTerms (r r' : WatchRec) : Prop where
  source : r'.source = r.source
  period : r'.period = r.period
  grace : r'.grace = r.grace
  minInterval : r'.minInterval = r.minInterval
  settle : r'.settle = r.settle

theorem WatchRec.SameTerms.trans {r₁ r₂ r₃ : WatchRec} (h : r₁.SameTerms r₂) (h' : r₂.SameTerms r₃) :
    r₁.SameTerms r₃ :=
  ⟨h'.source.trans h.source, h'.period.trans h.period, h'.grace.trans h.grace,
    h'.minInterval.trans h.minInterval, h'.settle.trans h.settle⟩

theorem LinkWatch.Terms.congr {lw lw' : LinkWatch} {r r' : WatchRec} (h : lw.Terms r) (hr : r.SameTerms r')
    (hc : lw'.periodCode = lw.periodCode) (hw : lw'.rstoWidth = lw.rstoWidth) : lw'.Terms r' where
  source := hr.source.trans h.source
  minInterval := hr.minInterval.trans h.minInterval
  settle := hr.settle.trans h.settle
  grace := by rw [hr.grace, hr.period, h.grace]
  period := by rw [hc, hr.period, h.period]
  width := hw ▸ h.width

/-- Between states that both hold lines, or both do not, watch 0's counts fit one where they fit the other. -/
theorem LinkWatch.Counts.congr {lw : LinkWatch} {st st' : WatchState} (h : lw.Counts st)
    (hs : st'.holds = st.holds) (ha : st' ≠ .dormant) : lw.Counts st' := by
  obtain ⟨h1, h2, h3, h4⟩ := h
  refine ⟨ha, h2, fun hst => h3 ?_, fun hst => h4 ?_⟩ <;> cases st <;> rcases hst with rfl | rfl <;>
    simp_all [WatchState.holds]

/-- A watch that goes on with the same terms, in a state that holds lines as the old one did or does not. -/
theorem WatchRec.fits.congr {w : Fin 16} {lw : LinkWatch} {entry entry' : Bool} {r r' : WatchRec}
    (h : r.fits w lw entry) (hr : r.SameTerms r') (hs : r'.state.holds = r.state.holds)
    (ha : w = 0 → r'.state ≠ .dormant) (he : entry' = true ↔ r'.supervised w lw) : r'.fits w lw entry' :=
  ⟨he, fun hw => ⟨(h.2 hw).1.congr hr rfl rfl, (h.2 hw).2.congr hs (ha hw)⟩⟩

/-- The same state, with the same entry. -/
theorem WatchRec.fits.same {w : Fin 16} {lw : LinkWatch} {entry : Bool} {r r' : WatchRec}
    (h : r.fits w lw entry) (hr : r.SameTerms r') (hs : r'.state = r.state) : r'.fits w lw entry := by
  refine h.congr hr (by rw [hs]) (fun hw => hs ▸ (h.2 hw).2.active) ?_
  simp only [h.1, WatchRec.supervised, hs]

section
variable {w : Fin 16} {r : WatchRec} {d : Device}

/-- A new record of a watch. -/
theorem setWatch_stands (w : Fin 16) (r : WatchRec) (d : Device) :
    (d.setWatch w (some r)).Stands w r d.linkWatch (d.entryOf (.watch w)).isSome := ⟨by simp, rfl, rfl⟩

theorem Device.Stands.insertEntry {lw : LinkWatch} {entry : Bool} (h : d.Stands w r lw entry) (due : Int)
    (wall : Option Nat) : (d.insertEntry (.watch w) due wall).Stands w r lw true := ⟨h.record, h.linkWatch, by simp⟩

theorem Device.Stands.removeEntry {lw : LinkWatch} {entry : Bool} (h : d.Stands w r lw entry) :
    (d.removeEntry (.watch w)).Stands w r lw false := ⟨h.record, h.linkWatch, by simp⟩

theorem Device.Stands.congr {lw : LinkWatch} {entry : Bool} (h : d.Stands w r lw entry) {d' : Device}
    (hd : d.SameSchedule d') : d'.Stands w r lw entry :=
  ⟨hd.watches ▸ h.record, hd.linkWatch.trans h.linkWatch, (hd.watchEntry w).trans h.entry⟩

theorem Device.Stands.setLink {lw : LinkWatch} {entry : Bool} (h : d.Stands w r lw entry) (lw' : LinkWatch) :
    ({ d with linkWatch := lw' } : Device).Stands w r lw' entry := ⟨h.record, rfl, h.entry⟩

theorem notify_sameSchedule (body : NoticeBody) (d : Device) : d.SameSchedule (d.notify body) :=
  sameSchedule_of_deadlines rfl rfl rfl rfl

theorem recordTrip_sameSchedule (w : Fin 16) (cause : Cause) (d : Device) : d.SameSchedule (d.recordTrip w cause) :=
  sameSchedule_of_deadlines rfl rfl rfl rfl

theorem addHolds_sameSchedule (w : Fin 16) (set : BitVec 8) (d : Device) : d.SameSchedule (d.addHolds w set) :=
  sameSchedule_of_deadlines rfl rfl rfl rfl

theorem dropHolds_sameSchedule (w : Fin 16) (set : BitVec 8) (d : Device) : d.SameSchedule (d.dropHolds w set) :=
  sameSchedule_of_deadlines rfl rfl rfl rfl

theorem startRsto_sameSchedule (d : Device) : d.SameSchedule d.startRsto :=
  insertEntry_sameSchedule (o := .rstoPulse) rfl _ _ d

/-- What an operation on watch w does to it: the others are as they were, and it stands so. -/
structure Device.Leaves (w : Fin 16) (r : WatchRec) (lw : LinkWatch) (entry : Bool) (d d' : Device) : Prop where
  only : Device.OnlyWatch w d d'
  stands : d'.Stands w r lw entry

theorem setWatch_leaves (w : Fin 16) (r : WatchRec) (d : Device) :
    d.Leaves w r d.linkWatch (d.entryOf (.watch w)).isSome (d.setWatch w (some r)) :=
  ⟨setWatch_onlyWatch _ d, setWatch_stands w r d⟩

section
variable {d' : Device} {lw : LinkWatch} {entry : Bool} (h : d.Leaves w r lw entry d')
include h

theorem Device.Leaves.insertEntry (due : Int) (wall : Option Nat) :
    d.Leaves w r lw true (d'.insertEntry (.watch w) due wall) :=
  ⟨h.only.trans (insertEntry_onlyWatch _ _ _), h.stands.insertEntry _ _⟩

theorem Device.Leaves.removeEntry : d.Leaves w r lw false (d'.removeEntry (.watch w)) :=
  ⟨h.only.trans (removeEntry_onlyWatch _), h.stands.removeEntry⟩

theorem Device.Leaves.andThen {d'' : Device} (hd : d'.SameSchedule d'') : d.Leaves w r lw entry d'' :=
  ⟨h.only.trans hd.onlyWatch, h.stands.congr hd⟩

theorem Device.Leaves.setLink (hw : w = 0) (lw' : LinkWatch) :
    d.Leaves w r lw' entry { d' with linkWatch := lw' } :=
  ⟨h.only.trans (linkWatch_onlyWatch lw' hw d'), h.stands.setLink lw'⟩

theorem Device.Leaves.insertRetrip (hw : w = 0) (x : WatchRec) : d.Leaves w r lw true (d'.insertRetrip x) := by
  subst hw
  exact h.insertEntry _ _

end

theorem enterWarn_leaves (w : Fin 16) (cause : Cause) (r : WatchRec) (d : Device) :
    d.Leaves w { r with state := .warn, warns := addStop16 r.warns 1, phase := d.sourcePhase r.source } d.linkWatch true
      (d.enterWarn w cause r) :=
  ((setWatch_leaves w _ d).insertEntry _ _).andThen (notify_sameSchedule _ _)

theorem trip_leaves (w : Fin 16) (cause : Cause) (r : WatchRec) (d : Device) :
    d.Leaves w { r with state := .tripped, trips := addStop16 r.trips 1, recovery := 0 }
      (if w = 0 then { d.linkWatch with consecutive := 1 } else d.linkWatch) (decide (w = 0)) (d.trip w cause r) := by
  have hend : ∀ x : Device, x.SameSchedule ((x.notify (.watchTripped w cause)).recordTrip w cause) := fun x =>
    (notify_sameSchedule _ x).trans (recordTrip_sameSchedule _ _ _)
  have hset := setWatch_leaves w { r with state := .tripped, trips := addStop16 r.trips 1, recovery := 0 } d
  unfold Device.trip Device.tripDeadline
  dsimp only
  by_cases hw : w = 0
  · simp only [hw, if_true, decide_true] at hset hend ⊢
    exact ((((hset.setLink rfl _).insertRetrip rfl r).andThen (addHolds_sameSchedule _ _ _)).andThen
      (startRsto_sameSchedule _)).andThen (hend _)
  · simp only [hw, if_false, decide_false]
    exact (hset.removeEntry.andThen (addHolds_sameSchedule _ _ _)).andThen (hend _)

theorem abortRelease_leaves (w : Fin 16) (cause : Cause) (r : WatchRec) (d : Device) :
    d.Leaves w { r with state := .tripped, recovery := 0 } d.linkWatch (decide (w = 0 ∧ d.linkWatch.lockout = false))
      (d.abortRelease w cause r) := by
  have hset := (setWatch_leaves w { r with state := .tripped, recovery := 0 } d).removeEntry
  unfold Device.abortRelease
  refine Device.Leaves.andThen ?_ (notify_sameSchedule _ _)
  by_cases hw : w = 0 ∧ d.linkWatch.lockout = false
  · rw [if_pos (by exact hw), decide_eq_true hw]
    exact hset.insertRetrip hw.1 r
  · rw [if_neg (by exact hw), decide_eq_false hw]
    exact hset

theorem completeRelease_leaves (w : Fin 16) (r : WatchRec) (d : Device) :
    d.Leaves w { r with state := .running, recovery := 0, lastRenewal := some d.elapsed }
      (if w = 0 then { d.linkWatch with consecutive := 0, lockout := false } else d.linkWatch) true
      (d.completeRelease w r) := by
  have hset := ((setWatch_leaves w { r with state := .running, recovery := 0, lastRenewal := some d.elapsed } d).andThen
    (dropHolds_sameSchedule w r.holdSet _)).insertEntry (d.elapsed + r.period) none
  unfold Device.completeRelease
  refine Device.Leaves.andThen ?_ (notify_sameSchedule _ _)
  by_cases hw : w = 0
  · rw [if_pos hw, if_pos hw]
    exact hset.setLink hw _
  · rw [if_neg hw, if_neg hw]
    exact hset

/-- A retrip of watch 0 without its entry (R110): the retrip deadline, or LOCKOUT at the third trip in a row (R111). -/
theorem retrip_leaves {r : WatchRec} {d : Device} (he : d.entryOf (.watch 0) = none) :
    d.Leaves 0 { r with trips := addStop16 r.trips 1, recovery := 0 }
      (if d.linkWatch.consecutive + 1 < 3 then { d.linkWatch with consecutive := d.linkWatch.consecutive + 1 }
        else { d.linkWatch with consecutive := d.linkWatch.consecutive + 1, lockout := true })
      (decide (d.linkWatch.consecutive + 1 < 3)) (d.retrip r) := by
  have hset := ((((setWatch_leaves 0 { r with trips := addStop16 r.trips 1, recovery := 0 } d).setLink rfl
    { d.linkWatch with consecutive := d.linkWatch.consecutive + 1 }).andThen (startRsto_sameSchedule _)).andThen
    (notify_sameSchedule (.watchTripped 0 .retrip) _)).andThen (recordTrip_sameSchedule 0 .retrip _)
  unfold Device.retrip
  by_cases hn : d.linkWatch.consecutive + 1 < 3
  · rw [if_pos hn, decide_eq_true hn]
    dsimp only
    rw [if_pos (by exact hn)]
    exact hset.insertRetrip rfl r
  · rw [if_neg hn, decide_eq_false hn]
    dsimp only
    rw [if_neg (by exact hn)]
    rw [he] at hset
    exact (hset.setLink rfl _).andThen (notify_sameSchedule _ _)

/-! ### The records that the rules leave fit -/

section
variable {lw : LinkWatch} {entry : Bool} (h : r.fits w lw entry)
include h

theorem WatchRec.fits.warned (hs : r.state = .running) (warns : Nat) (phase : Phase) :
    WatchRec.fits w lw true { r with state := .warn, warns := warns, phase := phase } :=
  h.congr ⟨rfl, rfl, rfl, rfl, rfl⟩ (by rw [hs]; rfl) (fun _ => nofun) (by simp [WatchRec.supervised])

theorem WatchRec.fits.tripped (hs : r.state = .warn) (trips : Nat) :
    WatchRec.fits w (if w = 0 then { lw with consecutive := 1 } else lw) (decide (w = 0))
      { r with state := .tripped, trips := trips, recovery := 0 } := by
  by_cases hw : w = 0
  · obtain ⟨hterms, hcounts⟩ := h.2 hw
    obtain ⟨-, hlock⟩ := hcounts.calm (.inr hs)
    rw [if_pos hw, decide_eq_true hw]
    refine ⟨by simp [WatchRec.supervised, hw, hlock], fun _ => ⟨hterms.congr ⟨rfl, rfl, rfl, rfl, rfl⟩ rfl rfl, ?_⟩⟩
    exact ⟨nofun, by simp, by simp, by simp [hlock]⟩
  · rw [if_neg hw, decide_eq_false hw]
    exact ⟨by simp [WatchRec.supervised, hw], fun h => absurd h hw⟩

theorem WatchRec.fits.aborted (hs : r.state = .releasing) :
    WatchRec.fits w lw (decide (w = 0 ∧ lw.lockout = false)) { r with state := .tripped, recovery := 0 } :=
  h.congr ⟨rfl, rfl, rfl, rfl, rfl⟩ (by rw [hs]; rfl) (fun _ => nofun) (by simp [WatchRec.supervised])

theorem WatchRec.fits.released (now : Nat) :
    WatchRec.fits w (if w = 0 then { lw with consecutive := 0, lockout := false } else lw) true
      { r with state := .running, recovery := 0, lastRenewal := some now } := by
  refine ⟨by simp [WatchRec.supervised], fun hw => ?_⟩
  rw [if_pos hw]
  exact ⟨(h.2 hw).1.congr ⟨rfl, rfl, rfl, rfl, rfl⟩ rfl rfl, nofun, by simp, by simp, by simp⟩

theorem WatchRec.fits.releasing (hs : r.state = .tripped) : WatchRec.fits w lw true { r with state := .releasing } :=
  h.congr ⟨rfl, rfl, rfl, rfl, rfl⟩ (by rw [hs]; rfl) (fun _ => nofun) (by simp [WatchRec.supervised])

end

theorem WatchRec.fits.retripped {lw : LinkWatch} (h : r.fits 0 lw true) (hs : r.state = .tripped) (trips : Nat) :
    WatchRec.fits 0 (if lw.consecutive + 1 < 3 then { lw with consecutive := lw.consecutive + 1 }
        else { lw with consecutive := lw.consecutive + 1, lockout := true })
      (decide (lw.consecutive + 1 < 3)) { r with trips := trips, recovery := 0 } := by
  obtain ⟨hterms, hcounts⟩ := h.2 rfl
  obtain ⟨hpos, hthree⟩ := hcounts.held (.inl hs)
  have hlock : lw.lockout = false := by simpa [WatchRec.supervised, hs] using h.1
  have hbound := hcounts.bound
  have hlt : lw.consecutive ≠ 3 := fun hc => by simp [hthree.mpr hc] at hlock
  have hterms' : ∀ n l, LinkWatch.Terms { lw with consecutive := n, lockout := l }
      { r with trips := trips, recovery := 0 } := fun _ _ => hterms.congr ⟨rfl, rfl, rfl, rfl, rfl⟩ rfl rfl
  by_cases hn : lw.consecutive + 1 < 3
  · rw [if_pos hn, decide_eq_true hn]
    refine ⟨by simp [WatchRec.supervised, hs, hlock], fun _ => ⟨hterms' _ _, by simp [hs], ?_, by simp [hs], ?_⟩⟩
    · exact Nat.le_of_lt hn
    · simp only [hlock, Bool.false_eq_true, false_iff]
      exact fun _ => ⟨Nat.succ_pos _, by omega⟩
  · rw [if_neg hn, decide_eq_false hn]
    refine ⟨by simp [WatchRec.supervised, hs], fun _ => ⟨hterms' _ _, by simp [hs], ?_, by simp [hs], ?_⟩⟩
    · exact show lw.consecutive + 1 ≤ 3 by omega
    · simp only [true_iff]
      exact fun _ => ⟨Nat.succ_pos _, by omega⟩

end

/-! ### What keeps both invariants -/

/-- Both invariants go on to hold: each timer's entry (R20), and each watch's with watch 0's table (R65, R105). -/
structure Device.Keeps (d d' : Device) : Prop where
  timers : d.timersScheduled → d'.timersScheduled
  watches : d.watchesKept → d'.watchesKept

theorem Device.Keeps.refl (d : Device) : d.Keeps d := ⟨id, id⟩

theorem Device.Keeps.trans {d₁ d₂ d₃ : Device} (h : d₁.Keeps d₂) (h' : d₂.Keeps d₃) : d₁.Keeps d₃ :=
  ⟨h'.timers ∘ h.timers, h'.watches ∘ h.watches⟩

/-- The records of watches and which of them have an entry are the same. -/
structure Device.SameWatches (d d' : Device) : Prop where
  watches : d'.watches = d.watches
  linkWatch : d'.linkWatch = d.linkWatch
  watchEntry : ∀ w, (d'.entryOf (.watch w)).isSome = (d.entryOf (.watch w)).isSome

theorem Device.SameWatches.watchesKept {d d' : Device} (h : d.SameWatches d') (hd : d.watchesKept) :
    d'.watchesKept := fun w => by
  rw [Device.watchSound, h.watches, h.linkWatch, h.watchEntry]
  exact hd w

theorem Device.SameSchedule.keeps {d d' : Device} (h : d.SameSchedule d') : d.Keeps d' :=
  ⟨h.timersScheduled, Device.SameWatches.watchesKept ⟨h.watches, h.linkWatch, h.watchEntry⟩⟩

theorem keeps_of_deadlines {d d' : Device} (ht : d'.timers = d.timers) (hw : d'.watches = d.watches)
    (hl : d'.linkWatch = d.linkWatch) (he : d'.deadlines = d.deadlines) : d.Keeps d' :=
  (sameSchedule_of_deadlines ht hw hl he).keeps

/-- The work of timers leaves the watches. -/
theorem TimerWorks.sameWatches {d d' : Device} (h : TimerWorks d d') : d.SameWatches d' := by
  have key : d'.watches = d.watches ∧ d'.linkWatch = d.linkWatch := by
    induction h with
    | refl => exact ⟨rfl, rfl⟩
    | tail _ h ih =>
      cases h with
      | schedule => exact ih
      | change h => cases h <;> exact ih
  exact ⟨key.1, key.2, fun w => by rw [h.entryOf (by simp) (by simp)]⟩

theorem keeps_of_timerWorks {d d' : Device} (h : TimerWorks d d') (ht : d.timersScheduled → d'.timersScheduled) :
    d.Keeps d' :=
  ⟨ht, h.sameWatches.watchesKept⟩

/-- An operation that leaves one watch with a record and an entry that fit. -/
theorem Device.Leaves.keeps {d d' : Device} {w : Fin 16} {r : WatchRec} {lw : LinkWatch} {entry : Bool}
    (h : d.Leaves w r lw entry d') (hf : d.watchesKept → r.fits w lw entry) : d.Keeps d' :=
  ⟨h.only.timersScheduled, fun hd => h.only.watchesKept hd (h.stands.watchSound_iff.mpr (hf hd))⟩

/-! ### Check-ins -/

section
variable {w : Fin 16} {r : WatchRec} {d : Device}

/-- The record fits where it stands: watch w's own fields and entry are those of the device. -/
abbrev Device.Fits (w : Fin 16) (r : WatchRec) (d : Device) : Prop :=
  r.fits w d.linkWatch (d.entryOf (.watch w)).isSome

theorem Device.watchesKept.fits (h : d.watchesKept) {r₀ : WatchRec} (hr : d.watches[w] = some r₀)
    (ht : r₀.SameTerms r) (hs : r.state = r₀.state) : d.Fits w r :=
  ((stands_of_some hr).watchSound_iff.mp (h w)).same ht hs

/-- What a renewal leaves (R86, R89, R94, R98, R109): the terms it is given, in a state that holds lines where the old
one did, with the entry that state wants. -/
theorem renew_leaves (hs : r.state ≠ .dormant) :
    ∃ r' entry, d.Leaves w r' d.linkWatch entry (d.renew w r) ∧ r.SameTerms r' ∧ r'.state.holds = r.state.holds ∧
      r'.state ≠ .dormant ∧
      (((d.entryOf (.watch w)).isSome = true ↔ r.supervised w d.linkWatch) →
        (entry = true ↔ r'.supervised w d.linkWatch)) := by
  have hterms : r.SameTerms (r.renewed d.elapsed) := ⟨rfl, rfl, rfl, rfl, rfl⟩
  have hstate : (r.renewed d.elapsed).state = r.state := rfl
  unfold Device.renew
  dsimp only
  rw [hstate]
  cases hst : r.state with
  | dormant => exact absurd hst hs
  | running =>
    refine ⟨_, true, (setWatch_leaves w (r.renewed d.elapsed) d).insertEntry _ _, hterms, ?_⟩
    simp [WatchRec.supervised, hstate, hst]
  | warn =>
    refine ⟨_, true, ((setWatch_leaves w { r.renewed d.elapsed with state := .running } d).insertEntry _ _).andThen
      (notify_sameSchedule _ _), ⟨rfl, rfl, rfl, rfl, rfl⟩, ?_⟩
    simp [WatchRec.supervised, WatchState.holds]
  | tripped =>
    dsimp only
    have hset := setWatch_leaves w
      { r.renewed d.elapsed with state := .tripped, recovery := min ((r.renewed d.elapsed).recovery + 1) 2 } d
    by_cases hw : w = 0 ∧ d.linkWatch.lockout = false
    · rw [if_pos (by exact hw)]
      refine ⟨_, true, hset.insertRetrip hw.1 _, ⟨rfl, rfl, rfl, rfl, rfl⟩, ?_⟩
      simp [WatchRec.supervised, hst, hw]
    · rw [if_neg (by exact hw)]
      refine ⟨_, _, hset, ⟨rfl, rfl, rfl, rfl, rfl⟩, ?_⟩
      simp [WatchRec.supervised, hst]
  | releasing =>
    refine ⟨_, _, setWatch_leaves w (r.renewed d.elapsed) d, hterms, ?_⟩
    simp [WatchRec.supervised, hstate, hst]

theorem renew_keeps (hf : d.watchesKept → d.Fits w r) : d.Keeps (d.renew w r) := by
  by_cases hs : r.state = .dormant
  · have hnone : d.renew w r = d := by
      have hstate : (r.renewed d.elapsed).state = .dormant := hs
      simp only [Device.renew, hstate]
    rw [hnone]
    exact .refl d
  · obtain ⟨r', entry, hl, hterms, hholds, hactive, hentry⟩ := renew_leaves (w := w) (d := d) hs
    exact hl.keeps fun hd => (hf hd).congr hterms hholds (fun _ => hactive) (hentry (hf hd).1)

theorem enterWarn_keeps (cause : Cause) (hs : r.state = .running) (hf : d.watchesKept → d.Fits w r) :
    d.Keeps (d.enterWarn w cause r) :=
  (enterWarn_leaves w cause r d).keeps fun hd => (hf hd).warned hs _ _

theorem trip_keeps (cause : Cause) (hs : r.state = .warn) (hf : d.watchesKept → d.Fits w r) :
    d.Keeps (d.trip w cause r) :=
  (trip_leaves w cause r d).keeps fun hd => (hf hd).tripped hs _

theorem abortRelease_keeps (cause : Cause) (hs : r.state = .releasing) (hf : d.watchesKept → d.Fits w r) :
    d.Keeps (d.abortRelease w cause r) :=
  (abortRelease_leaves w cause r d).keeps fun hd => (hf hd).aborted hs

/-- A new record with the same terms and state. -/
theorem setWatch_keeps (hf : d.watchesKept → d.Fits w r) : d.Keeps (d.setWatch w (some r)) :=
  (setWatch_leaves w r d).keeps hf

theorem earlyCandidate_keeps (hf : d.watchesKept → d.Fits w r) : d.Keeps (d.earlyCandidate w r) := by
  have hf' : d.watchesKept → d.Fits w { r with earlyFaults := addStop16 r.earlyFaults 1 } := fun hd =>
    (hf hd).same ⟨rfl, rfl, rfl, rfl, rfl⟩ rfl
  unfold Device.earlyCandidate
  dsimp only
  split
  · exact .refl d
  · next hs => exact enterWarn_keeps .early hs hf'
  · next hs => exact trip_keeps .early hs hf'
  · exact setWatch_keeps fun hd => (hf hd).same ⟨rfl, rfl, rfl, rfl, rfl⟩ rfl
  · next hs => exact abortRelease_keeps .early hs hf'

theorem outOfStep_keeps (hf : d.watchesKept → d.Fits w r) : d.Keeps (d.outOfStep w r) := by
  have hf' : d.watchesKept → d.Fits w { r with outOfStep := addStop16 r.outOfStep 1 } := fun hd =>
    (hf hd).same ⟨rfl, rfl, rfl, rfl, rfl⟩ rfl
  unfold Device.outOfStep
  dsimp only
  split
  · exact setWatch_keeps hf'
  · exact setWatch_keeps hf'
  · exact setWatch_keeps hf'
  · exact setWatch_keeps hf'
  · next hs => exact abortRelease_keeps .outOfStep hs hf'

theorem movePhase_sameTerms (r : WatchRec) (ph : Phase) :
    r.SameTerms (r.movePhase ph) ∧ (r.movePhase ph).state = r.state := by
  unfold WatchRec.movePhase
  split <;> exact ⟨⟨rfl, rfl, rfl, rfl, rfl⟩, rfl⟩

theorem Device.watchesKept.fits_movePhase (h : d.watchesKept) (hr : d.watches[w] = some r) (ph : Phase) :
    d.Fits w (r.movePhase ph) :=
  h.fits hr (movePhase_sameTerms r ph).1 (movePhase_sameTerms r ph).2

theorem prepare_keeps (hr : d.watches[w] = some r) : d.Keeps (d.prepare w r).1 := by
  unfold Device.prepare
  split
  · exact setWatch_keeps fun hd => hd.fits_movePhase hr _
  · exact outOfStep_keeps fun hd => hd.fits_movePhase hr _

/-- All that a confirming half does: a renewal, or something that keeps the invariants whatever a renewal would
store. -/
theorem confirm_cases (hr : d.watches[w] = some r) (store : WatchRec → WatchRec) :
    d.confirm w r store = (d.renew w (store (r.movePhase .opened)), .ok) ∨
    ((d.confirm w r store).2 ≠ .ok ∧ d.Keeps (d.confirm w r store).1) := by
  unfold Device.confirm
  split
  · exact .inr ⟨nofun, outOfStep_keeps fun hd => hd.fits_movePhase hr _⟩
  · split
    · exact .inr ⟨nofun, earlyCandidate_keeps fun hd => hd.fits_movePhase hr _⟩
    · exact .inl rfl

theorem confirm_keeps {store : WatchRec → WatchRec} (hr : d.watches[w] = some r)
    (hstore : d.watchesKept → d.Fits w (store (r.movePhase .opened))) : d.Keeps (d.confirm w r store).1 := by
  rcases confirm_cases hr store with h | ⟨-, h⟩
  · rw [h]
    exact renew_keeps hstore
  · exact h

theorem watchEdge_keeps (w : Fin 16) (level : Level) (d : Device) : d.Keeps (d.watchEdge w level) := by
  unfold Device.watchEdge
  split
  · exact .refl d
  · next r hr =>
    have hf : ∀ ph, d.watchesKept → d.Fits w { r with phase := ph } := fun ph hd =>
      hd.fits hr ⟨rfl, rfl, rfl, rfl, rfl⟩ rfl
    split
    · exact .refl d
    · split
      · exact setWatch_keeps (hf _)
      · split
        · exact setWatch_keeps (hf _)
        · split
          · exact earlyCandidate_keeps (hf _)
          · exact renew_keeps (hf _)

/-- The hand-over of a watch's entry, taken off the list first (R11, R87, R90, R100, R110). -/
theorem watchDeadline_keeps (he : (d.entryOf (.watch w)).isSome) :
    d.Keeps ((d.takeOwner (.watch w)).watchDeadline w) := by
  have htake := takeOwner_onlyWatch (w := w) d
  have from_take {r' : WatchRec} {lw : LinkWatch} {entry : Bool} {d' : Device}
      (h : (d.takeOwner (.watch w)).Leaves w r' lw entry d') (hf : d.watchesKept → r'.fits w lw entry) : d.Keeps d' :=
    Device.Leaves.keeps ⟨htake.trans h.only, h.stands⟩ hf
  unfold Device.watchDeadline
  rw [Device.takeOwner_watches]
  split
  · next hr =>
    exact ⟨htake.timersScheduled, fun hd => by simp [(hd w).1, hr, -Fin.getElem_fin] at he⟩
  · next r hr =>
    have hf : d.watchesKept → r.fits w d.linkWatch true := fun hd => he ▸ (stands_of_some hr).watchSound_iff.mp (hd w)
    have hsup : d.watchesKept → r.supervised w d.linkWatch := fun hd => (hf hd).1.mp rfl
    split
    · next hs =>
      exact ⟨htake.timersScheduled, fun hd => by simpa [WatchRec.supervised, hs] using hsup hd⟩
    · next hs => exact from_take (enterWarn_leaves w .expired r _) fun hd => (hf hd).warned hs _ _
    · next hs => exact from_take (trip_leaves w .expired r _) fun hd => (hf hd).tripped hs _
    · next hs =>
      split
      · next hw =>
        subst hw
        exact from_take (retrip_leaves (by simp)) fun hd => (hf hd).retripped hs _
      · next hw =>
        exact ⟨htake.timersScheduled, fun hd => by simpa [WatchRec.supervised, hs, hw] using hsup hd⟩
    · exact from_take (completeRelease_leaves w r _) fun hd => (hf hd).released _

end

end Sys2Proof.Machine
end

section
/-! Entries and their owners' records, part three: every request, event and step (R20, R65, R105). -/

namespace Sys2Proof.Machine

/-! ### Requests on timers -/

section
variable (p : List Byte) (d : Device)

/-- A one-byte timer request leaves the device, or does what its act does with the timer's record. -/
theorem withTimer_keeps {act : Fin 24 → TimerRec → Taken} (h : ∀ t r, d.timers[t] = some r → d.Keeps (act t r).1) :
    d.Keeps (withTimer p d act).1 := by
  unfold withTimer
  split
  · exact .refl d
  · split
    · exact .refl d
    · split
      · exact .refl d
      · next hr => exact h _ _ hr

/-- The hand-over of a timer's entry, with the expiry it is (R11, R13). -/
theorem handTimer_keeps {t : Fin 24} (he : (d.entryOf (.timer t)).isSome) (due : Int) (pastDue : Bool) :
    d.Keeps ((d.takeOwner (.timer t)).expireTimer t due pastDue) :=
  keeps_of_timerWorks (.head (.change (.take t)) (expireTimer_works t due pastDue _))
    fun h => expireTimer_scheduled (expiring_takeOwner he h) due pastDue

theorem drain_keeps (fuel : Nat) : d.Keeps (drain fuel d) := by
  induction fuel generalizing d with
  | zero => exact .refl d
  | succ fuel ih =>
    rcases drain_succ_cases fuel d with ⟨e, t, he, ho, h⟩ | h
    · have hentry := ho ▸ entryOf_isSome_of_mem (List.mem_of_find?_eq_some he)
      rw [h]
      exact (handTimer_keeps d hentry e.due true).trans (ih _)
    · rw [h]
      exact .refl d

theorem drainPastDue_keeps : d.Keeps d.drainPastDue := drain_keeps d 24

theorem takeTimerDefine_keeps : d.Keeps (takeTimerDefine p d).1 := by
  unfold takeTimerDefine
  split
  · exact .refl d
  · split
    · exact .refl d
    · split
      · exact .refl d
      · next t _ _ r hp =>
        split
        · next hc =>
          refine ⟨defineTimer_scheduled hp hc, Device.SameWatches.watchesKept ?_⟩
          have hf := forgetTimer_sameSchedule t d
          have ht := takeClaims_sameSchedule t r ((d.forgetTimer t).setTimer t (some r))
          exact ⟨ht.watches.trans hf.watches, ht.linkWatch.trans hf.linkWatch,
            fun w => (ht.watchEntry w).trans (hf.watchEntry w)⟩
        · exact .refl d

theorem takeTimerStart_keeps : d.Keeps (takeTimerStart p d).1 := by
  refine withTimer_keeps p d fun t r hr => ?_
  split
  · exact (keeps_of_timerWorks (beginTimer_works hr) (beginTimer_scheduled hr)).trans (drainPastDue_keeps _)
  · exact .refl d
  · exact .refl d

theorem takeTimerStop_keeps : d.Keeps (takeTimerStop p d).1 := by
  refine withTimer_keeps p d fun t r hr => ?_
  have hstop : d.Keeps (d.stopTimer t r) :=
    keeps_of_timerWorks (stopTimer_changes hr).works (stopTimer_scheduled hr)
  dsimp only
  split
  · exact .refl d
  · exact hstop
  · exact hstop

theorem takeTimerPause_keeps : d.Keeps (takeTimerPause p d).1 := by
  refine withTimer_keeps p d fun t r hr => ?_
  split
  · exact .refl d
  · exact .refl d
  · exact .refl d
  · exact keeps_of_timerWorks (pauseTimer_changes hr).works (pauseTimer_scheduled hr)

theorem takeTimerResume_keeps : d.Keeps (takeTimerResume p d).1 := by
  refine withTimer_keeps p d fun t r hr => ?_
  split
  · exact keeps_of_timerWorks (resumeTimer_changes hr).works (resumeTimer_scheduled hr)
  · exact .refl d
  · exact .refl d

theorem takeTimerFree_keeps : d.Keeps (takeTimerFree p d).1 := by
  refine withTimer_keeps p d fun t r hr => ?_
  dsimp only
  split
  · exact .refl d
  · split
    · next hi =>
      have hf := releaseClaims_sameSchedule r d
      exact ⟨freeTimer_scheduled hr hi,
        Device.SameWatches.watchesKept (d := d) ⟨hf.watches, hf.linkWatch, hf.watchEntry⟩⟩
    · exact .refl d
    · exact .refl d

/-- TIME_SET's change of wall time (R4 to R6). -/
theorem setWall_keeps (off : Int) : d.Keeps (d.setWall off) :=
  ((sameSchedule_of_deadlines (d := d) (d' := { d with wallOffset := off }) rfl rfl rfl rfl).trans
    (rekeyEntries_sameSchedule _)).keeps.trans (drainPastDue_keeps _)

theorem takeTimeSet_keeps : d.Keeps (takeTimeSet p d).1 := by
  rcases takeTimeSet_cases p d with h | ⟨off, h⟩ <;> rw [h]
  · exact .refl d
  · exact setWall_keeps d off

/-! ### Requests on watches -/

theorem withWatch_keeps {act : Fin 16 → WatchRec → Taken}
    (h : ∀ w r, p.length = 1 → idAt 16 p 0 = some w → d.watches[w] = some r → d.Keeps (act w r).1) :
    d.Keeps (withWatch p d act).1 := by
  unfold withWatch
  split
  · exact .refl d
  · next hl =>
    split
    · exact .refl d
    · next hw =>
      split
      · exact .refl d
      · next hr => exact h _ _ (by simpa using hl) hw hr

theorem withLinkCheckin_keeps {act : Fin 16 → WatchRec → Taken}
    (h : ∀ w r, d.watches[w] = some r → d.Keeps (act w r).1) : d.Keeps (withLinkCheckin p d act).1 := by
  refine withWatch_keeps p d fun w r _ _ hr => ?_
  split
  · exact .refl d
  · exact .refl d
  all_goals exact h w r hr

/-- What a WATCH_DEFINE stores is DORMANT (R69). -/
theorem parseWatch_dormant {p : List Byte} {r : WatchRec} (h : parseWatch p = some r) : r.state = .dormant := by
  unfold parseWatch at h
  split at h
  · obtain ⟨src, -, rfl⟩ := Option.map_eq_some_iff.mp h
    rfl
  · cases h

theorem forgetWatch_sameSchedule (w : Fin 16) (d : Device) : d.SameSchedule (d.forgetWatch w) := by
  unfold Device.forgetWatch Device.releaseCheckin
  split
  · split <;> exact sameSchedule_of_deadlines rfl rfl rfl rfl
  · exact .refl d

theorem takeCheckin_sameSchedule (w : Fin 16) (r : WatchRec) (d : Device) : d.SameSchedule (d.takeCheckin w r) := by
  unfold Device.takeCheckin
  split <;> exact sameSchedule_of_deadlines rfl rfl rfl rfl

/-- A watch that is not active has no entry. -/
theorem entryOf_eq_none_of_not_active {d : Device} {w : Fin 16} (ha : d.watchActive w = false) (h : d.watchesKept) :
    d.entryOf (.watch w) = none := by
  rw [← Option.isNone_iff_eq_none, ← Option.not_isSome, Bool.not_eq_true', Bool.eq_false_iff, Ne, (h w).1]
  rintro ⟨r, hr, hs⟩
  rcases hs with hs | hs | hs | ⟨hs, -⟩ <;>
    simp [Device.watchActive, hr, hs, WatchState.active, -Fin.getElem_fin] at ha

theorem defineWatch_keeps {d : Device} {w : Fin 16} {r : WatchRec} (hs : r.state = .dormant) (hw : w ≠ 0)
    (ha : d.watchActive w = false) : d.Keeps (d.defineWatch w r) := by
  have hf := forgetWatch_sameSchedule w d
  have hset := setWatch_leaves w { r with phase := (d.forgetWatch w).sourcePhase r.source } (d.forgetWatch w)
  have hleaves : d.Leaves w { r with phase := (d.forgetWatch w).sourcePhase r.source } d.linkWatch
      (d.entryOf (.watch w)).isSome (d.defineWatch w r) := by
    rw [Device.defineWatch_eq, ← hf.watchEntry w, ← hf.linkWatch]
    exact Device.Leaves.andThen ⟨hf.onlyWatch.trans hset.only, hset.stands⟩ (takeCheckin_sameSchedule w r _)
  refine hleaves.keeps fun hd => ⟨?_, fun h => absurd h hw⟩
  rw [entryOf_eq_none_of_not_active ha hd]
  simp [WatchRec.supervised, hs]

theorem takeWatchDefine_keeps : d.Keeps (takeWatchDefine p d).1 := by
  unfold takeWatchDefine
  split
  · exact .refl d
  · split
    · next hp =>
      split
      · exact .refl d
      · next hw =>
        split
        · exact .refl d
        · split
          · exact .refl d
          · next ha => exact defineWatch_keeps (parseWatch_dormant hp) hw (by simpa using ha)
    · exact .refl d

theorem takeWatchStart_keeps : d.Keeps (takeWatchStart p d).1 := by
  refine withWatch_keeps p d fun w r _ _ hr => ?_
  dsimp only
  split
  · next hs =>
    have hset := (setWatch_leaves w { r with
      state := .running, lastRenewal := some d.elapsed, recovery := 0, phase := d.sourcePhase r.source } d).insertEntry
      (d.elapsed + r.period) none
    refine hset.keeps fun hd => ⟨by simp [WatchRec.supervised], fun hw => ?_⟩
    have hactive := (((stands_of_some hr).watchSound_iff.mp (hd w)).2 hw).2.active
    exact absurd hs hactive
  · exact .refl d

theorem takeCheckPrep_keeps : d.Keeps (takeCheckPrep p d).1 :=
  withLinkCheckin_keeps p d fun _ _ hr => prepare_keeps hr

theorem takeCheckConf_keeps : d.Keeps (takeCheckConf p d).1 :=
  withLinkCheckin_keeps p d fun _ _ hr => confirm_keeps hr fun hd => hd.fits_movePhase hr _

theorem retuneState_keeps {st : WatchState} {act : Taken} (h : st = .running ∨ st = .warn → d.Keeps act.1) :
    d.Keeps (retuneState p d st act).1 := by
  unfold retuneState
  split
  · exact h (.inl rfl)
  · exact h (.inr rfl)
  all_goals exact .refl d

theorem linkPeriod_table (code : Fin 4) : [250, 1000, 4000, 16000][code.val]? = some (linkPeriod code) := by
  revert code
  decide

/-- What a renewing retune of watch 0 stores (R81, R106), with the period code and RSTO width that go with it. -/
theorem retuneLink_renew_keeps {r : WatchRec} (hr : d.watches[(0 : Fin 16)] = some r)
    (hs : r.state = .running ∨ r.state = .warn) (code : Fin 4) {width : Nat} (hwidth : 10 ≤ width ∧ width ≤ 250)
    (hold : BitVec 8) :
    d.Keeps
      { d.renew 0 { r.movePhase .opened with
            period := linkPeriod code, grace := linkPeriod code, holdSet := hold } with
        linkWatch := { (d.renew 0 { r.movePhase .opened with
            period := linkPeriod code, grace := linkPeriod code, holdSet := hold }).linkWatch with
          periodCode := code, rstoWidth := width } } := by
  obtain ⟨hmove, hstate⟩ := movePhase_sameTerms r .opened
  have hactive : (r.movePhase .opened).state ≠ .dormant := by
    rw [hstate]
    rcases hs with hs | hs <;> simp [hs]
  obtain ⟨r', entry, hl, hterms, hholds, hact, hentry⟩ := renew_leaves (w := 0) (d := d)
    (r := { r.movePhase .opened with period := linkPeriod code, grace := linkPeriod code, holdSet := hold }) hactive
  rw [hl.stands.linkWatch]
  refine (hl.setLink rfl { d.linkWatch with periodCode := code, rstoWidth := width }).keeps fun hd => ?_
  have hfits := hd.fits_movePhase hr .opened
  obtain ⟨hold, hcounts⟩ := hfits.2 rfl
  refine ⟨hentry hfits.1, fun _ => ⟨?_, ?_⟩⟩
  · exact ⟨hterms.source.trans hold.source, hterms.minInterval.trans hold.minInterval,
      hterms.settle.trans hold.settle, by rw [hterms.grace, hterms.period],
      by rw [hterms.period]; exact linkPeriod_table code, hwidth⟩
  · obtain ⟨h1, h2, h3, h4⟩ := hcounts.congr (st' := r'.state) hholds hact
    exact ⟨h1, h2, h3, h4⟩

theorem takeRetuneLink_keeps : d.Keeps (takeRetuneLink p d).1 := by
  unfold takeRetuneLink
  split
  · exact .refl d
  · split
    · exact .refl d
    · next code _ =>
      split
      · next hwidth =>
        split
        · exact .refl d
        · next hr =>
          refine retuneState_keeps p d fun hs => ?_
          dsimp only [checkinAnswer_fst]
          rcases confirm_cases hr (fun r => { r with
            period := linkPeriod code, grace := linkPeriod code, holdSet := byte (byteAt p 2) }) with h | ⟨hj, h⟩
          · rw [h]
            exact retuneLink_renew_keeps d hr hs code hwidth _
          · split
            · next hok => exact absurd hok hj
            · exact h
            · exact h
      · exact .refl d

theorem takeWatchRetune_keeps : d.Keeps (takeWatchRetune p d).1 := by
  unfold takeWatchRetune
  split
  · exact .refl d
  · split
    · exact takeRetuneLink_keeps p d
    · next hid =>
      split
      · exact .refl d
      · split
        · exact .refl d
        · next w hw =>
          have hw0 : w ≠ 0 := by
            rintro rfl
            simp only [idAt] at hw
            split at hw
            · exact hid (Fin.mk.inj (Option.some.inj hw))
            · cases hw
          split
          · split
            · exact .refl d
            · next hr =>
              split
              · exact .refl d
              · refine retuneState_keeps p d fun hs => confirm_keeps hr fun hd => ⟨?_, fun h => absurd h hw0⟩
                exact (hd.fits_movePhase hr .opened).1
          · exact .refl d

theorem freeWatch_leaves_none (w : Fin 16) (r : WatchRec) (d : Device) :
    Device.OnlyWatch w d (d.freeWatch w r) ∧ (d.freeWatch w r).watches[w] = none ∧
      (d.freeWatch w r).entryOf (.watch w) = none := by
  have hclaim : (d.removeEntry (.watch w)).SameSchedule ((d.removeEntry (.watch w)).releaseCheckin r) := by
    unfold Device.releaseCheckin
    split <;> exact sameSchedule_of_deadlines rfl rfl rfl rfl
  refine ⟨((removeEntry_onlyWatch d).trans hclaim.onlyWatch).trans (setWatch_onlyWatch none _), ?_, ?_⟩
  · simp [Device.freeWatch]
  · rw [Device.entryOf, freeWatch_deadlines]
    exact find_removeOwner_self _ _

theorem freeWatch_keeps {w : Fin 16} (hw : w ≠ 0) (r : WatchRec) (d : Device) : d.Keeps (d.freeWatch w r) := by
  obtain ⟨honly, hnone, hentry⟩ := freeWatch_leaves_none w r d
  exact ⟨honly.timersScheduled, fun hd => honly.watchesKept hd (watchSound_of_none hw hnone hentry)⟩

theorem takeWatchRetire_keeps : d.Keeps (takeWatchRetire p d).1 := by
  unfold takeWatchRetire
  split
  · exact .refl d
  · next hzero =>
    refine withWatch_keeps p d fun w r hl hw hr => ?_
    have hw0 : w ≠ 0 := by
      rintro rfl
      simp only [idAt] at hw
      split at hw
      · exact hzero ⟨hl, Fin.mk.inj (Option.some.inj hw)⟩
      · cases hw
    have hretire : d.Keeps (d.retireActive w r).1 := by
      have hc := confirm_keeps (store := id) hr fun hd => hd.fits_movePhase hr .opened
      unfold Device.retireActive
      dsimp only
      split
      · exact hc.trans (freeWatch_keeps hw0 r _)
      · exact hc
      · exact hc
    split
    · exact freeWatch_keeps hw0 r d
    · exact hretire
    · exact hretire
    · exact .refl d
    · exact .refl d

theorem takeRestart_keeps : d.Keeps (takeRestart p d).1 := by
  have hc : d.Keeps (restartConfirm d).1 := by
    unfold restartConfirm
    split
    · next hr => exact confirm_keeps hr fun hd => hd.fits_movePhase hr .opened
    · exact .refl d
  unfold takeRestart
  split
  · exact .refl d
  · dsimp only
    split
    · exact hc.trans (keeps_of_deadlines rfl rfl rfl rfl)
    · exact hc
    · exact hc

theorem takeWatchRelease_keeps : d.Keeps (takeWatchRelease p d).1 := by
  refine withWatch_keeps p d fun w r _ _ hr => ?_
  dsimp only
  split
  · exact .refl d
  · next hs =>
    have hs : r.state = .tripped := not_not.mp hs
    split
    · exact .refl d
    · have hset := setWatch_leaves w { r with state := .releasing } d
      have hfits : d.watchesKept → WatchRec.fits w d.linkWatch true { r with state := .releasing } := fun hd =>
        ((stands_of_some hr).watchSound_iff.mp (hd w)).releasing hs
      unfold Device.releaseWatch
      dsimp only
      split
      · have hdone := completeRelease_leaves w { r with state := .releasing } (d.setWatch w (some { r with state := .releasing }))
        exact Device.Leaves.keeps ⟨hset.only.trans hdone.only, hdone.stands⟩ fun hd => (hfits hd).released _
      · exact (hset.insertEntry _ _).keeps hfits

/-! ### The other requests -/

theorem keeps_of_fst_eq {d : Device} {x : Taken} (h : x.1 = d) : d.Keeps x.1 := by
  rw [h]
  exact .refl d

theorem takeLinkQuery_sameSchedule : d.SameSchedule (takeLinkQuery p d).1 := by
  unfold takeLinkQuery
  split
  · exact .refl d
  · split <;> exact sameSchedule_of_deadlines rfl rfl rfl rfl

theorem takeLineSet_sameSchedule : d.SameSchedule (takeLineSet p d).1 := by
  unfold takeLineSet
  split
  · exact .refl d
  · split
    · split <;> exact sameSchedule_of_deadlines rfl rfl rfl rfl
    · exact .refl d

theorem takeLineConfig_sameSchedule : d.SameSchedule (takeLineConfig p d).1 := by
  unfold takeLineConfig
  split
  · exact .refl d
  · split
    · split
      · exact .refl d
      · split
        · exact .refl d
        · split <;> exact sameSchedule_of_deadlines rfl rfl rfl rfl
    · exact .refl d

theorem takeLineHold_sameSchedule : d.SameSchedule (takeLineHold p d).1 := by
  unfold takeLineHold
  split <;> exact sameSchedule_of_deadlines rfl rfl rfl rfl

theorem takeLineUnhold_sameSchedule : d.SameSchedule (takeLineUnhold p d).1 := by
  unfold takeLineUnhold
  split <;> exact sameSchedule_of_deadlines rfl rfl rfl rfl

theorem takeInputConfig_sameSchedule : d.SameSchedule (takeInputConfig p d).1 := by
  unfold takeInputConfig
  split
  · exact .refl d
  · split
    · split
      · exact .refl d
      · split
        · exact .refl d
        · split <;> exact sameSchedule_of_deadlines rfl rfl rfl rfl
    · exact .refl d

theorem insertResend_sameSchedule : d.SameSchedule d.insertResend :=
  insertEntry_sameSchedule (o := .resend) rfl _ _ d

theorem notices_sameSchedule (q : NoticeQueue) : d.SameSchedule { d with notices := q } :=
  sameSchedule_of_deadlines rfl rfl rfl rfl

theorem link_sameSchedule (l : LinkPort) : d.SameSchedule { d with link := l } :=
  sameSchedule_of_deadlines rfl rfl rfl rfl

theorem takeNoticeAck_sameSchedule : d.SameSchedule (takeNoticeAck p d).1 := by
  unfold takeNoticeAck
  split
  · exact .refl d
  · split
    · exact .refl d
    · next rest _ =>
      have hq := notices_sameSchedule d { d.notices with queue := rest }
      dsimp only
      split
      · exact hq.trans (insertResend_sameSchedule _)
      · exact hq.trans (removeEntry_sameSchedule (o := .resend) rfl _)

theorem takeFaultClear_sameSchedule : d.SameSchedule (takeFaultClear p d).1 := by
  unfold takeFaultClear
  split <;> exact sameSchedule_of_deadlines rfl rfl rfl rfl

/-- Every request keeps the entries those of their owners' records. -/
theorem takeRequest_keeps (r : Request) : d.Keeps (takeRequest r p d).1 := by
  cases r with
  | identify => exact keeps_of_fst_eq (takeIdentify_fst p d)
  | timeGet => exact keeps_of_fst_eq (takeTimeGet_fst p d)
  | scheduleQuery => exact keeps_of_fst_eq (takeScheduleQuery_fst p d)
  | faultQuery => exact keeps_of_fst_eq (takeFaultQuery_fst p d)
  | lineQuery => exact keeps_of_fst_eq (takeLineQuery_fst p d)
  | inputQuery => exact keeps_of_fst_eq (takeInputQuery_fst p d)
  | timerQuery => exact withTimer_keeps p d fun _ _ _ => .refl d
  | watchQuery => exact withWatch_keeps p d fun _ _ _ _ _ => .refl d
  | linkQuery => exact (takeLinkQuery_sameSchedule p d).keeps
  | restart => exact takeRestart_keeps p d
  | timeSet => exact takeTimeSet_keeps p d
  | timerDefine => exact takeTimerDefine_keeps p d
  | timerStart => exact takeTimerStart_keeps p d
  | timerStop => exact takeTimerStop_keeps p d
  | timerPause => exact takeTimerPause_keeps p d
  | timerResume => exact takeTimerResume_keeps p d
  | timerFree => exact takeTimerFree_keeps p d
  | watchDefine => exact takeWatchDefine_keeps p d
  | watchStart => exact takeWatchStart_keeps p d
  | checkPrep => exact takeCheckPrep_keeps p d
  | checkConf => exact takeCheckConf_keeps p d
  | watchRetune => exact takeWatchRetune_keeps p d
  | watchRetire => exact takeWatchRetire_keeps p d
  | watchRelease => exact takeWatchRelease_keeps p d
  | lineConfig => exact (takeLineConfig_sameSchedule p d).keeps
  | lineSet => exact (takeLineSet_sameSchedule p d).keeps
  | lineHold => exact (takeLineHold_sameSchedule p d).keeps
  | lineUnhold => exact (takeLineUnhold_sameSchedule p d).keeps
  | inputConfig => exact (takeInputConfig_sameSchedule p d).keeps
  | noticeAck => exact (takeNoticeAck_sameSchedule p d).keeps
  | faultClear => exact (takeFaultClear_sameSchedule p d).keeps

end

/-! ### The link port -/

theorem sendNotice_sameSchedule (d : Device) : d.SameSchedule d.sendNotice := by
  unfold Device.sendNotice
  split
  · exact sameSchedule_of_deadlines rfl rfl rfl rfl
  · split
    · split
      · exact .refl d
      · dsimp only
        split
        · exact sameSchedule_of_deadlines rfl rfl rfl rfl
        · exact ((notices_sameSchedule d _).trans (insertResend_sameSchedule _)).trans (link_sameSchedule _ _)
    · exact .refl d

theorem arbitrate_sameSchedule (d : Device) : d.SameSchedule d.arbitrate := by
  unfold Device.arbitrate
  split
  · exact .refl d
  · split
    · exact link_sameSchedule d _
    · split
      · exact .refl d
      · exact sendNotice_sameSchedule d

theorem takeFrame_keeps (f : Frame) (d : Device) : d.Keeps (d.takeFrame f) := by
  have hanswer : d.Keeps (answer f d).1 := by
    unfold answer
    split
    · exact takeRequest_keeps f.payload d _
    · exact (link_sameSchedule d _).keeps
  exact hanswer.trans (link_sameSchedule _ _).keeps

theorem dispatchFrames_keeps (fuel : Nat) (d : Device) : d.Keeps (dispatchFrames fuel d) := by
  induction fuel generalizing d with
  | zero => exact .refl d
  | succ fuel ih =>
    rcases dispatchFrames_succ_cases fuel d with ⟨f, rest, -, -, -, h⟩ | h
    · rw [h]
      exact (((link_sameSchedule d _).keeps.trans (takeFrame_keeps f _)).trans
        (arbitrate_sameSchedule _).keeps).trans (ih _)
    · rw [h]
      exact .refl d

theorem pump_keeps (d : Device) : d.Keeps d.pump :=
  (arbitrate_sameSchedule d).keeps.trans (dispatchFrames_keeps _ _)

theorem deliverFrame_keeps (f : Frame) (d : Device) : d.Keeps (d.deliverFrame f) := by
  unfold Device.deliverFrame
  split
  · exact .refl d
  · split
    · exact (link_sameSchedule d _).keeps.trans (dispatchFrames_keeps _ _)
    · exact (link_sameSchedule d _).keeps

theorem completeFrame_keeps (got : List Byte) (d : Device) : d.Keeps (d.completeFrame got) := by
  have hhunt : d.Keeps (d.setAssembly .hunting) := (link_sameSchedule d _).keeps
  unfold Device.completeFrame
  dsimp only
  split
  · exact hhunt.trans (deliverFrame_keeps _ _)
  · exact hhunt.trans (link_sameSchedule _ _).keeps

theorem receiveByte_keeps (b : Byte) (d : Device) : d.Keeps (d.receiveByte b) := by
  unfold Device.receiveByte
  split
  · split <;> exact (link_sameSchedule d _).keeps
  · split <;> exact (link_sameSchedule d _).keeps
  · dsimp only
    split
    · exact completeFrame_keeps _ d
    · exact (link_sameSchedule d _).keeps

theorem gapTimeout_keeps (d : Device) : d.Keeps d.gapTimeout := by
  unfold Device.gapTimeout
  split
  · exact .refl d
  · exact (link_sameSchedule d _).keeps

/-! ### Hand-overs and samples -/

theorem resendDeadline_sameSchedule (d : Device) : d.SameSchedule d.resendDeadline := by
  unfold Device.resendDeadline
  split
  · exact (notices_sameSchedule d _).trans (insertResend_sameSchedule _)
  · exact .refl d

/-- The engine's hand-over of an entry that stands in the list, with its owner's work (R11). -/
theorem ownerWork_keeps {e : Entry} {d : Device} (he : e ∈ d.deadlines) :
    d.Keeps ((d.takeOwner e.owner).ownerWork e) := by
  have hentry := entryOf_isSome_of_mem he
  unfold Device.ownerWork
  cases ho : e.owner with
  | timer t =>
    rw [ho] at hentry
    exact (handTimer_keeps d hentry e.due false).trans (drainPastDue_keeps _)
  | watch w =>
    rw [ho] at hentry
    exact watchDeadline_keeps hentry
  | pulse n => exact ((takeOwner_sameSchedule (o := .pulse n) rfl d).trans (setLine_sameSchedule n _ _)).keeps
  | rstoPulse => exact (takeOwner_sameSchedule (o := .rstoPulse) rfl d).keeps
  | resend => exact ((takeOwner_sameSchedule (o := .resend) rfl d).trans (resendDeadline_sameSchedule _)).keeps

theorem handOver_keeps {e : Entry} {d : Device} (he : d.headDue = some e) : d.Keeps (d.handOver e) := by
  obtain ⟨⟨rest, hl⟩, -, -⟩ := Device.headDue_eq_some.mp he
  exact (ownerWork_keeps (by simp [hl])).trans (pump_keeps _)

theorem finishInstant_keeps (fuel : Nat) (d : Device) : d.Keeps (finishInstant fuel d) := by
  induction fuel generalizing d with
  | zero => exact .refl d
  | succ fuel ih =>
    unfold finishInstant
    split
    · next he => exact (handOver_keeps he).trans (ih _)
    · exact .refl d

theorem expiryOf_keeps (want : Entry → Bool) (d : Device) : d.Keeps (d.expiryOf want) := by
  unfold Device.expiryOf
  split
  · next he =>
    split
    · exact handOver_keeps he
    · exact .refl d
  · exact .refl d

theorem deliverEdge_keeps (role : Role) (level : Level) (d : Device) : d.Keeps (d.deliverEdge role level) := by
  unfold Device.deliverEdge
  split
  · exact .refl d
  · exact watchEdge_keeps _ _ d
  · exact keeps_of_timerWorks (countEdge_works _ _ d) (countEdge_scheduled _ _)
  · split
    · exact keeps_of_timerWorks (triggerTimer_works _ d) (triggerTimer_scheduled _)
    · exact .refl d
  · split
    · exact keeps_of_timerWorks (stopEdge_changes _ d).works (stopEdge_scheduled _)
    · exact .refl d

theorem sampleLine_keeps (n : Fin 8) (level : Level) (d : Device) : d.Keeps (d.sampleLine n level) := by
  have hset : d.Keeps (d.setInput n (d.inputs[n].sample level).1) :=
    keeps_of_deadlines rfl rfl rfl rfl
  unfold Device.sampleLine
  dsimp only
  split
  · exact (hset.trans (deliverEdge_keeps _ _ _)).trans (drainPastDue_keeps _)
  · exact hset

theorem sampleAll_keeps (levels : BitVec 8) (order : List (Fin 8)) (d : Device) :
    d.Keeps (d.sampleAll levels order) := by
  have hfirst : d.Keeps { d with sampleOwed := false } := keeps_of_deadlines rfl rfl rfl rfl
  exact List.foldlRecOn (lineOrder order) (fun (d : Device) n => (d.sampleLine n (pinLevel levels n)).pump)
    (motive := d.Keeps) hfirst fun d' hd' n _ => (hd'.trans (sampleLine_keeps n _ d')).trans (pump_keeps _)

theorem tick_keeps (d : Device) : d.Keeps d.tick := by
  unfold Device.tick
  split <;> exact keeps_of_deadlines rfl rfl rfl rfl

theorem inputSample_keeps (levels : BitVec 8) (order : List (Fin 8)) (d : Device) :
    d.Keeps (d.inputSample levels order) := by
  unfold Device.inputSample
  split
  · exact sampleAll_keeps _ _ d
  · exact ((finishInstant_keeps _ d).trans (tick_keeps _)).trans (sampleAll_keeps _ _ _)

/-! ### Resets and the step -/

/-- Right after a reset no timer is defined and watch 0 alone is supervised (R17, R42, R85). -/
theorem initial_keeps (d : Device) (inputs : Vector InputRec 8) (spd : Level) (f : FaultRecord) (m : Mode) :
    d.Keeps { Device.initial inputs spd f with mode := m } := by
  constructor
  · intro _
    have hsound : ∀ t, (Device.initial inputs spd f).timerSound t := fun t =>
      (timerSound_of_none (by simp [Device.initial])).mpr (by simp [Device.initial, Device.entryOf])
    exact (timersScheduled_iff _).mpr hsound
  · intro _ w
    show (Device.initial inputs spd f).watchSound w
    by_cases hw : w = 0
    · subst hw
      have hstands : (Device.initial inputs spd f).Stands 0 WatchRec.linkDefault
          { periodCode := 2, rstoWidth := 50, consecutive := 0, lockout := false } true := ⟨rfl, rfl, rfl⟩
      refine hstands.watchSound_iff.mpr ⟨by simp [WatchRec.supervised, WatchRec.linkDefault], fun _ => ⟨?_, ?_⟩⟩
      · exact ⟨rfl, rfl, rfl, rfl, rfl, by decide⟩
      · exact ⟨nofun, by decide, fun _ => ⟨rfl, rfl⟩, by simp [WatchRec.linkDefault]⟩
    · refine watchSound_of_none hw ?_ (by simp [Device.initial, Device.entryOf, Ne.symm hw])
      cases hr : (Device.initial inputs spd f).watches[w] with
      | none => rfl
      | some r => exact absurd (initial_watch hr).1 hw

theorem endReset_keeps (cause : ResetCause) (pins : BitVec 8) (spd : Level) (d : Device) :
    d.Keeps (d.endReset cause pins spd) :=
  ((initial_keeps d (firstSamples pins) spd (d.fault.afterReset cause) .running).trans
    (notify_sameSchedule _ _).keeps).trans (pump_keeps _)

theorem frameSent_keeps (d : Device) : d.Keeps d.frameSent := by
  rcases Device.frameSent_cases (d := d) rfl with ⟨-, h⟩ | ⟨-, -, h⟩ | ⟨-, h⟩ <;> rw [h]
  · exact initial_keeps d _ _ _ _
  · exact (link_sameSchedule d _).keeps.trans (pump_keeps _)
  · exact .refl d

theorem restartReset_keeps (pins : BitVec 8) (spd : Level) (d : Device) : d.Keeps (d.restartReset pins spd) := by
  rcases Device.restartReset_cases pins spd d with ⟨-, h⟩ | ⟨-, -, h⟩ <;> rw [h]
  · exact endReset_keeps _ _ _ d
  · exact .refl d

theorem assertReset_keeps (d : Device) : d.Keeps d.assertReset := by
  unfold Device.assertReset
  split
  · exact initial_keeps d _ _ _ _
  · exact initial_keeps d _ _ _ _
  · exact .refl d
  · exact .refl d

theorem releaseReset_keeps (pins : BitVec 8) (spd : Level) (d : Device) : d.Keeps (d.releaseReset pins spd) := by
  unfold Device.releaseReset
  split
  · exact endReset_keeps _ _ _ d
  · exact endReset_keeps _ _ _ d
  · exact .refl d
  · exact .refl d

theorem applySupply_keeps (rstN : Level) (pins : BitVec 8) (spd : Level) (d : Device) :
    d.Keeps (d.applySupply rstN pins spd) := by
  cases rstN with
  | high => exact endReset_keeps _ _ _ d
  | low => exact initial_keeps d _ _ _ _

theorem idle_keeps (d : Device) : d.Keeps d.idle := by
  unfold Device.idle
  split
  · exact .refl d
  · exact .refl d
  · exact endReset_keeps _ _ _ d
  · split
    · next he => exact handOver_keeps he
    · split
      · exact sampleAll_keeps _ _ d
      · exact tick_keeps d

theorem whileRunning_keeps {f : Device → Device} (hf : ∀ d : Device, d.Keeps (f d)) {s t : State}
    (h : whileRunning f s = .next t) : s.toDevice.Keeps t.toDevice := by
  unfold whileRunning at h
  split at h
  · obtain rfl := Host.Outcome.next.inj h
    exact hf _
  · obtain rfl := Host.Outcome.next.inj h
    exact .refl _

theorem exec_keeps (c : Instr) {s t : State} (h : exec c s = .next t) : s.toDevice.Keeps t.toDevice := by
  have expiry (want : Device → Entry → Bool) (h : whileRunning (fun d => d.expiryOf (want d)) s = .next t) :
      s.toDevice.Keeps t.toDevice := whileRunning_keeps (fun d => expiryOf_keeps (want d) d) h
  have received (b : Byte) (h : whileRunning (Device.receiveByte b) s = .next t) : s.toDevice.Keeps t.toDevice :=
    whileRunning_keeps (receiveByte_keeps b) h
  cases c with
  | unknownRequest kind tag p => exact whileRunning_keeps (deliverFrame_keeps _) h
  | timerExpiry => exact expiry (fun _ => Entry.ofTimer) h
  | renewalDeadlineExpiry => exact expiry (fun d => d.entryWatchIn .running) h
  | graceDeadlineExpiry => exact expiry (fun d => d.entryWatchIn .warn) h
  | settleDeadlineExpiry => exact expiry (fun d => d.entryWatchIn .releasing) h
  | retripDeadlineExpiry => exact expiry (fun d e => e.owner == .watch 0 && d.entryWatchIn .tripped e) h
  | pulseEnd => exact expiry (fun _ => Entry.ofPulse) h
  | rstoPulseEnd => exact expiry (fun _ e => e.owner == .rstoPulse) h
  | resendDeadlineExpiry => exact expiry (fun _ e => e.owner == .resend) h
  | inputSample levels order => exact whileRunning_keeps (inputSample_keeps levels order) h
  | frameReceived b => exact received b h
  | noiseByte b => exact received b h
  | badLengthAbandon b => exact received b h
  | startByte => exact received 0xC3 h
  | frameContentByte b => exact received b h
  | gapTimeout => exact whileRunning_keeps gapTimeout_keeps h
  | transmitComplete => exact whileRunning_keeps frameSent_keeps h
  | restartReset pins spd =>
    obtain rfl := Host.Outcome.next.inj h
    exact restartReset_keeps pins spd _
  | powerOn rstN pins spd =>
    obtain rfl := Host.Outcome.next.inj h
    exact applySupply_keeps rstN pins spd _
  | rstNAssert =>
    obtain rfl := Host.Outcome.next.inj h
    exact assertReset_keeps _
  | rstNRelease pins spd =>
    obtain rfl := Host.Outcome.next.inj h
    exact releaseReset_keeps pins spd _
  | _ => exact whileRunning_keeps (deliverFrame_keeps _) h

theorem step_keeps_entries {s t : State} (h : step s = .next t) : s.toDevice.Keeps t.toDevice := by
  unfold step at h
  split at h
  · next c rest _ => exact exec_keeps (s := { s with pending := rest }) c h
  · obtain rfl := Host.Outcome.next.inj h
    exact idle_keeps _

/-- Settles O57: every operation that changes a timer's or a watch's state changes its entry with it, and an expiry
starts from a RUNNING timer whose entry has been taken or that has none. -/
theorem entriesFollowTimersAndWatches : Obligations.EntriesFollowTimersAndWatches := by
  unfold Obligations.EntriesFollowTimersAndWatches
  exact ⟨fun s t hs h => (step_keeps_entries h).timers hs, fun s t hw hl h =>
    (watchesKept_iff _).mp ((step_keeps_entries h).watches ((watchesKept_iff _).mpr ⟨hw, hl⟩))⟩

end Sys2Proof.Machine
end

section
/-! The one-byte timer requests: stop, pause, resume, free and query (R34, R37, R39 to R41). -/

namespace Sys2Proof.Machine

/-! ### Reaching the timer's record -/

/-- A one-byte timer request for a defined timer does its act (R31, R34, R37, R39 to R41). -/
theorem withTimer_defined {d : Device} {t : Fin 24} {r : TimerRec} (h : d.timers[t] = some r)
    (act : Fin 24 → TimerRec → Taken) : withTimer [byte t] d act = act t r := by
  simp [withTimer, h, -Fin.getElem_fin]

/-- A one-byte request for a FREE timer is refused. -/
theorem withTimer_free {d : Device} {t : Fin 24} (h : d.timers[t] = none) (act : Fin 24 → TimerRec → Taken) :
    withTimer [byte t] d act = (d, [0x13, byte t]) := by
  simp [withTimer, h, refuseEcho, Status.code, -Fin.getElem_fin]

/-- A one-byte timer request for an id above 23 is refused. -/
theorem withTimer_badId {id : Byte} (h : 23 < id.toNat) (d : Device) (act : Fin 24 → TimerRec → Taken) :
    withTimer [id] d act = (d, [0x12, id]) := by
  have hid : idAt 24 [id] 0 = none := by
    rw [idAt, dif_neg (by rw [byteAt_cons_zero]; omega)]
  simp [withTimer, hid, refuseEcho, Status.code]

/-- The answer of a ready device to a request, by what taking it leaves. -/
theorem exec_taken {s : State} (h : s.ready) (q : Request) (tag : Byte) {p : List Byte} {d : Device} {reply : List Byte}
    (ht : takeRequest q p s.toDevice = (d, reply)) : exec (q.command tag p) s = .next (s.answers d q tag reply) := by
  rw [exec_command_ready q tag p h, ht]

theorem timerShortReply_of_some {d : Device} {t : Fin 24} {r : TimerRec} (h : d.timers[t] = some r) :
    timerShortReply t d = [byte t, timerStateCode (some r.state)] := by
  rw [timerShortReply, h]
  rfl

theorem timerReply_of_some {d : Device} {t : Fin 24} {r : TimerRec} (h : d.timers[t] = some r) :
    timerReply t d = [byte t, timerStateCode (some r.state)] ++ optInstant (d.dueOf (.timer t)) := by
  rw [timerReply, h]
  rfl

theorem optInstant_none : optInstant none = [0x00, 0, 0, 0, 0, 0, 0] := by decide

/-- The due instant reported of an owner without an entry is absent (R188). -/
theorem dueOf_none {d : Device} {o : Owner} (h : d.entryOf o = none) : d.dueOf o = none := by
  rw [Device.dueOf, h]
  rfl

theorem setTimer_timers_self (t : Fin 24) (r : Option TimerRec) (d : Device) : (d.setTimer t r).timers[t] = r := by
  simp

/-! ### Stopping -/

/-- A stop, field by field (R34): the timer IDLE with remaining its period, its entry gone, its bound line at rest with
no pulse. -/
theorem stopTimer_eq (t : Fin 24) (r : TimerRec) (d : Device) :
    d.stopTimer t r =
      { d with
        timers := d.timers.set t (some { r with state := .idle, remaining := r.period })
        lines := match r.output with
          | some a => d.lines.set a.line { d.lines[a.line] with shadow := .rest, pulseEnd := none }
          | none => d.lines
        deadlines := d.deadlines.filter (fun e => e.owner ≠ .timer t ∧
          ∀ a, r.output = some a → e.owner ≠ .pulse a.line) } := by
  unfold Device.stopTimer
  cases ho : r.output with
  | none =>
    have hl : d.deadlines.filter (fun e => e.owner ≠ .timer t ∧
        ∀ a : OutputAction, none = some a → e.owner ≠ .pulse a.line) = removeOwner (.timer t) d.deadlines := by
      rw [removeOwner_eq_filter]
      exact List.filter_congr fun e _ => by simp
    rw [hl]
    rfl
  | some a =>
    have hl : d.deadlines.filter (fun e => e.owner ≠ .timer t ∧ ∀ b, some a = some b → e.owner ≠ .pulse b.line) =
        removeOwner (.pulse a.line) (removeOwner (.timer t) d.deadlines) := by
      rw [removeOwner_eq_filter, removeOwner_eq_filter, List.filter_filter]
      exact List.filter_congr fun e _ => by simp [and_comm]
    rw [hl]
    rfl

theorem takeTimerStop_idle {d : Device} {t : Fin 24} {r : TimerRec} (h : d.timers[t] = some r) (hs : r.state = .idle) :
    takeTimerStop [byte t] d = (d, [0x00, byte t, 0x01]) := by
  rw [takeTimerStop, withTimer_defined h]
  simp only [hs, timerShortReply_of_some h]
  rfl

theorem takeTimerStop_busy {d : Device} {t : Fin 24} {r : TimerRec} (h : d.timers[t] = some r) (hs : r.state ≠ .idle) :
    takeTimerStop [byte t] d = (d.stopTimer t r, [0x00, byte t, 0x01]) := by
  have hstopped : (d.stopTimer t r).timers[t] = some { r with state := .idle, remaining := r.period } := by
    rw [stopTimer_eq]
    exact setTimer_timers_self t _ d
  have hreply : timerShortReply t (d.stopTimer t r) = [byte t, 0x01] := timerShortReply_of_some hstopped
  rw [takeTimerStop, withTimer_defined h]
  cases hst : r.state with
  | idle => exact absurd hst hs
  | running =>
    dsimp only
    rw [hreply]
    rfl
  | paused =>
    dsimp only
    rw [hreply]
    rfl

/-! ### Pausing and resuming -/

theorem takeTimerPause_running {d : Device} {t : Fin 24} {r : TimerRec} (h : d.timers[t] = some r)
    (hk : r.kind = .relative) (hs : r.state = .running) {r' : TimerRec} (hr : (d.pauseTimer t r).timers[t] = some r')
    (hp : r'.state = .paused) :
    takeTimerPause [byte t] d = (d.pauseTimer t r, [0x00, byte t, 0x03] ++ beBytes 2 r'.remaining) := by
  rw [takeTimerPause, withTimer_defined h]
  simp only [hk, hs, timerShortReply_of_some hr, hr, hp]
  rfl

theorem takeTimerResume_paused {d : Device} {t : Fin 24} {r : TimerRec} (h : d.timers[t] = some r)
    (hs : r.state = .paused) :
    takeTimerResume [byte t] d =
      (d.resumeTimer t r, [0x00, byte t, 0x02] ++ optInstant ((d.resumeTimer t r).dueOf (.timer t))) := by
  have hrun : (d.resumeTimer t r).timers[t] = some { r with state := .running } := by
    unfold Device.resumeTimer
    cases r.source <;> exact setTimer_timers_self t _ d
  rw [takeTimerResume, withTimer_defined h]
  simp only [hs, timerReply_of_some hrun]
  rfl

/-- Every scale's unit is at least a millisecond (R19). -/
theorem Scale.ms_pos (sc : Scale) : 0 < sc.ms := by
  cases sc <;> decide

/-- The due instant reported after an insertion ahead of now (R31, R39). -/
theorem dueOf_insertEntry_later {d : Device} {due : Int} (h : (d.elapsed : Int) < clipDue due) (o : Owner)
    (wall : Option Nat) : (d.insertEntry o due wall).dueOf o = some (clipDue due).toNat := by
  rw [Device.dueOf, Device.entryOf_insertEntry_self, Device.newEntry_later _ _ _ _ h]
  rfl

/-- An interval from now, recorded (R1). -/
theorem clipDue_natCast (n : Nat) : clipDue n = (min n 281474976710655 : Nat) := by
  simp [clipDue, Config.maxElapsed]

/-- One interval of milliseconds on from now lies ahead (R31, R39). -/
theorem lt_clipDue_add {now k : Nat} (hk : 0 < k) (hn : now < 281474976710655) :
    (now : Int) < clipDue (now + k : Nat) := by
  rw [clipDue_natCast]
  omega

theorem timerUnitsLeft_of_some {d : Device} {t : Fin 24} {e : Entry} (h : d.entryOf (.timer t) = some e) (sc : Scale) :
    d.timerUnitsLeft t sc = max 1 (((e.due - d.elapsed).toNat + (sc.ms - 1)) / sc.ms) := by
  rw [Device.timerUnitsLeft, h]
  rfl

/-- A timer that is not TIME counts a parent's expiries or an input's edges. -/
theorem counted_of_not_time {r : TimerRec} (h : ∀ sc, r.source ≠ .time sc) :
    (∃ p, r.source = .parent p) ∨ ∃ n e, r.source = .input n e := by
  cases hs : r.source with
  | time sc => exact absurd hs (h sc)
  | parent p => exact .inl ⟨p, rfl⟩
  | input n e => exact .inr ⟨n, e, rfl⟩

theorem pauseTimer_time {r : TimerRec} {sc : Scale} (hs : r.source = .time sc) (t : Fin 24) (d : Device) :
    d.pauseTimer t r =
      (d.setTimer t (some { r with state := .paused, remaining := d.timerUnitsLeft t sc })).removeEntry (.timer t) := by
  rw [Device.pauseTimer, hs]

theorem pauseTimer_counted {r : TimerRec} (hs : ∀ sc, r.source ≠ .time sc) (t : Fin 24) (d : Device) :
    d.pauseTimer t r = d.setTimer t (some { r with state := .paused }) := by
  rcases counted_of_not_time hs with ⟨p, hp⟩ | ⟨n, e, hp⟩ <;> rw [Device.pauseTimer, hp]

theorem resumeTimer_time {r : TimerRec} {sc : Scale} (hs : r.source = .time sc) (t : Fin 24) (d : Device) :
    d.resumeTimer t r =
      (d.setTimer t (some { r with state := .running })).insertEntry (.timer t) (d.elapsed + r.remaining * sc.ms) none := by
  rw [Device.resumeTimer, hs]
  rfl

theorem resumeTimer_counted {r : TimerRec} (hs : ∀ sc, r.source ≠ .time sc) (t : Fin 24) (d : Device) :
    d.resumeTimer t r = d.setTimer t (some { r with state := .running }) := by
  rcases counted_of_not_time hs with ⟨p, hp⟩ | ⟨n, e, hp⟩ <;> rw [Device.resumeTimer, hp]

/-- Settles O20: each request is its act on the timer's record, whose device and reply are read off. -/
theorem timerStopPauseResume : Obligations.TimerStopPauseResume := by
  refine ⟨fun s tag t r hready ht => ⟨fun hs => ?_, fun hs => ?_⟩, fun s tag t r hready ht hk =>
    ⟨fun sc e hs hsrc he => ?_, fun hs hsrc => ?_, fun sc hs hsrc hpos hnow => ?_, fun hs hsrc he => ?_⟩⟩
  · exact exec_taken hready .timerStop tag (takeTimerStop_idle ht hs)
  · have htake := takeTimerStop_busy ht hs
    rw [stopTimer_eq] at htake
    exact exec_taken hready .timerStop tag htake
  · have htake := takeTimerPause_running ht hk hs (by rw [pauseTimer_time hsrc]; exact setTimer_timers_self t _ _) rfl
    rw [pauseTimer_time hsrc, timerUnitsLeft_of_some he] at htake
    rw [← removeOwner_eq_filter]
    exact exec_taken hready .timerPause tag htake
  · have htake := takeTimerPause_running ht hk hs (by rw [pauseTimer_counted hsrc]; exact setTimer_timers_self t _ _) rfl
    rw [pauseTimer_counted hsrc] at htake
    exact exec_taken hready .timerPause tag htake
  · have htake := takeTimerResume_paused ht hs
    have hlater := lt_clipDue_add (Nat.mul_pos hpos sc.ms_pos) hnow
    have hdue := dueOf_insertEntry_later (d := s.toDevice.setTimer t (some { r with state := .running })) hlater
      (.timer t) none
    rw [clipDue_natCast, Int.toNat_natCast] at hdue
    push_cast at hdue
    rw [resumeTimer_time hsrc, hdue] at htake
    exact exec_taken hready .timerResume tag htake
  · have htake := takeTimerResume_paused ht hs
    rw [resumeTimer_counted hsrc, dueOf_none (by exact he), optInstant_none] at htake
    exact exec_taken hready .timerResume tag htake

end Sys2Proof.Machine
end

section
/-! TIMER_FREE and TIMER_QUERY (R40, R41). -/

namespace Sys2Proof.Machine

/-! ### Being named by another object -/

/-- The record names timer t, as its parent or as its trigger target. -/
theorem recordNames_iff {slot : Option TimerRec} {t : Fin 24} :
    (match slot with
      | some r => r.childOf t || r.trigger == some t
      | none => false) = true ↔ ∃ r, slot = some r ∧ (r.source = .parent t ∨ r.trigger = some t) := by
  cases slot with
  | none => simp
  | some r => simp [TimerRec.childOf]

/-- A role names timer t exactly where it is a TRIGGER role of that timer. -/
theorem roleNames_iff {role : Role} {t : Fin 24} :
    (match role with
      | .trigger u _ _ => u == t
      | .none => false
      | .checkin _ => false
      | .count _ => false) = true ↔ ∃ e a, role = .trigger t e a := by
  cases role with
  | trigger u e a =>
    constructor
    · intro h
      exact ⟨e, a, by rw [eq_of_beq h]⟩
    · rintro ⟨e', a', h⟩
      cases h
      exact beq_self_eq_true t
  | none => simp
  | checkin w => simp
  | count u => simp

theorem timerReferenced_iff {d : Device} {t : Fin 24} :
    d.timerReferenced t = true ↔
      (∃ (x : Fin 24) (rx : TimerRec), d.timers[x] = some rx ∧ (rx.source = .parent t ∨ rx.trigger = some t)) ∨
      ∃ (n : Fin 8) (e : Edge) (a : TriggerAct), d.inputs[n].role = .trigger t e a := by
  rw [Device.timerReferenced, Bool.or_eq_true, List.any_eq_true, List.any_eq_true]
  refine or_congr (exists_congr fun x => ?_) (exists_congr fun n => ?_)
  · exact (and_iff_right (List.mem_finRange x)).trans recordNames_iff
  · exact (and_iff_right (List.mem_finRange n)).trans roleNames_iff

/-! ### Giving up a definition's claims -/

/-- A released binding, in one write (R29, R123). -/
theorem releaseBinding_eq (n : Fin 8) (d : Device) :
    d.releaseBinding n =
      { d with
        lines := d.lines.set n { d.lines[n] with shadow := .rest, binding := none, pulseEnd := none }
        deadlines := removeOwner (.pulse n) d.deadlines } := by
  unfold Device.releaseBinding Device.restLine Device.setLine Device.removeEntry
  simp

/-- The claims given up, field by field (R29, R40). -/
theorem releaseClaims_eq (r : TimerRec) (d : Device) :
    d.releaseClaims r =
      { d with
        lines := match r.output with
          | some a => d.lines.set a.line { d.lines[a.line] with shadow := .rest, binding := none, pulseEnd := none }
          | none => d.lines
        inputs := match r.source with
          | .input n _ => d.inputs.set n { d.inputs[n] with role := .none }
          | .time _ => d.inputs
          | .parent _ => d.inputs
        deadlines := d.deadlines.filter (fun e => ∀ a, r.output = some a → e.owner ≠ .pulse a.line) } := by
  unfold Device.releaseClaims
  cases ho : r.output with
  | none =>
    have hl : d.deadlines.filter (fun e => ∀ a : OutputAction, none = some a → e.owner ≠ .pulse a.line) =
        d.deadlines := by
      simp
    rw [hl]
    cases r.source <;> rfl
  | some a =>
    have hl : d.deadlines.filter (fun e => ∀ b, some a = some b → e.owner ≠ .pulse b.line) =
        removeOwner (.pulse a.line) d.deadlines := by
      rw [removeOwner_eq_filter]
      exact List.filter_congr fun e _ => by simp
    rw [hl]
    dsimp only
    rw [releaseBinding_eq]
    cases r.source <;> rfl

/-! ### TIMER_FREE -/

theorem takeTimerFree_referenced {d : Device} {t : Fin 24} {r : TimerRec} (h : d.timers[t] = some r)
    (hn : d.timerReferenced t = true) : takeTimerFree [byte t] d = (d, [0x14, byte t]) := by
  rw [takeTimerFree, withTimer_defined h]
  simp only [hn, if_true]
  rfl

theorem takeTimerFree_busy {d : Device} {t : Fin 24} {r : TimerRec} (h : d.timers[t] = some r)
    (hn : ¬d.timerReferenced t = true) (hs : r.state ≠ .idle) :
    takeTimerFree [byte t] d = (d, [0x18, byte t]) := by
  rw [takeTimerFree, withTimer_defined h]
  simp only [hn]
  cases hst : r.state with
  | idle => exact absurd hst hs
  | running => rfl
  | paused => rfl

theorem takeTimerFree_idle {d : Device} {t : Fin 24} {r : TimerRec} (h : d.timers[t] = some r)
    (hn : ¬d.timerReferenced t = true) (hs : r.state = .idle) :
    takeTimerFree [byte t] d = ((d.releaseClaims r).setTimer t none, [0x00, byte t, 0x00]) := by
  have hreply : timerShortReply t ((d.releaseClaims r).setTimer t none) = [byte t, 0x00] := by
    rw [timerShortReply, setTimer_timers_self]
    rfl
  rw [takeTimerFree, withTimer_defined h]
  simp only [hn, hs, hreply]
  rfl

/-- Settles O21: the three answers of TIMER_FREE, with the claims given up read off field by field. -/
theorem timerFreeRemoves : Obligations.TimerFreeRemoves := by
  refine fun s tag t r hready ht => ⟨fun hn => ?_, fun hn hs => ?_, fun hn hs => ?_⟩
  · exact exec_taken hready .timerFree tag (takeTimerFree_referenced ht (timerReferenced_iff.2 hn))
  · exact exec_taken hready .timerFree tag (takeTimerFree_busy ht (mt timerReferenced_iff.1 hn) hs)
  · have htake := takeTimerFree_idle ht (mt timerReferenced_iff.1 hn) hs
    rw [releaseClaims_eq] at htake
    exact exec_taken hready .timerFree tag htake

/-! ### TIMER_QUERY -/

theorem remainingField_length (n : Nat) : (remainingField n).length = 2 := by
  unfold remainingField
  split <;> exact length_beBytes 2 _

theorem takeTimerQuery_defined {d : Device} {t : Fin 24} {r : TimerRec} (h : d.timers[t] = some r) :
    takeTimerQuery [byte t] d =
      (d, [0x00, byte t, timerStateCode (some r.state)] ++ r.definitionBytes ++
        remainingField (d.reportedRemaining t r) ++ beBytes 4 r.fires ++ beBytes 2 r.lateCount ++
        optInstant (d.dueOf (.timer t))) := by
  rw [takeTimerQuery, withTimer_defined h, timerShortReply_of_some h]
  rfl

/-- The remaining reported, by state, source and entry (R41). -/
theorem reportedRemaining_eq {d : Device} {t : Fin 24} {r : TimerRec}
    (h : ∀ sc, r.state = .running → r.source = .time sc → (d.entryOf (.timer t)).isSome) :
    d.reportedRemaining t r =
      match r.state, r.source, d.entryOf (.timer t) with
      | .running, .time sc, some e => max 1 (((e.due - d.elapsed).toNat + (sc.ms - 1)) / sc.ms)
      | .idle, _, _ => r.period
      | _, _, _ => r.remaining := by
  unfold Device.reportedRemaining
  cases hst : r.state with
  | idle => rfl
  | paused => cases r.source <;> rfl
  | running =>
    cases hsrc : r.source with
    | parent p => rfl
    | input n e => rfl
    | time sc =>
      obtain ⟨e, he⟩ := Option.isSome_iff_exists.1 (h sc hst hsrc)
      rw [he]
      exact timerUnitsLeft_of_some he sc

theorem optInstant_dueOf (d : Device) (o : Owner) :
    optInstant (d.dueOf o) =
      match d.entryOf o with
      | some e => 0x01 :: beBytes 6 e.due.toNat
      | none => [0x00, 0, 0, 0, 0, 0, 0] := by
  rw [Device.dueOf]
  cases d.entryOf o with
  | some e => rfl
  | none => exact optInstant_none

/-- Settles O22: the reply is laid out by the definition, and the remaining it reports is the one the statement names. -/
theorem timerQueryReports : Obligations.TimerQueryReports := by
  refine fun s tag t r hready ht hentry => ⟨remainingField (s.toDevice.reportedRemaining t r), remainingField_length _,
    fun hleft => ?_, ?_⟩
  · rw [reportedRemaining_eq hentry]
    exact if_pos hleft
  · have htake := takeTimerQuery_defined ht
    rw [optInstant_dueOf] at htake
    exact exec_taken hready .timerQuery tag htake

end Sys2Proof.Machine
end

section
/-! The TIMER_DEFINE payload: its layout and what is read back from it (Tables 11-7 and 11-8, R24). -/

namespace Sys2Proof.Machine

/-! ### Reading behind earlier bytes -/

theorem byteAt_append_right (l m : List Byte) (i : Nat) : byteAt (l ++ m) (l.length + i) = byteAt m i := by
  rw [byteAt, byteAt, List.getD_append_right _ _ _ _ (Nat.le_add_right _ _), Nat.add_sub_cancel_left]

theorem idAt_cons_succ (n : Nat) (b : Byte) (p : List Byte) (i : Nat) : idAt n (b :: p) (i + 1) = idAt n p i := by
  simp only [idAt, byteAt_cons_succ]

theorem idAt_append_right (n : Nat) (l m : List Byte) (i : Nat) : idAt n (l ++ m) (l.length + i) = idAt n m i := by
  simp only [idAt, byteAt_append_right]

theorem fieldAt_append_right (l m : List Byte) (i k : Nat) : fieldAt (l ++ m) (l.length + i) k = fieldAt m i k := by
  rw [fieldAt, List.drop_length_add_append, fieldAt]

/-! ### The parts of a definition -/

/-- The scale byte of a TIME source. -/
def TimerSource.scalePart : TimerSource → List Byte
  | .time sc => [sc.code]
  | .parent _ => []
  | .input _ _ => []

/-- The due wall time of an ABSOLUTE timer. -/
def TimerKind.duePart : TimerKind → List Byte
  | .absolute due => beBytes 6 due
  | .relative => []

/-- The output action. -/
def TimerRec.outputPart (r : TimerRec) : List Byte :=
  match r.output with
  | some a => [byte a.line, a.effect.code] ++ beBytes 2 a.effect.widthField
  | none => []

/-- The trigger target. -/
def TimerRec.triggerPart (r : TimerRec) : List Byte := (r.trigger.map (fun u => byte u)).toList

/-- The first nine bytes of a TIMER_DEFINE payload that sends the period `n` (Table 11-7). -/
def TimerRec.defineHead (t : Fin 24) (n : Nat) (r : TimerRec) : List Byte :=
  [byte t, r.kind.code, r.mode.code, byte r.flags] ++ beBytes 2 n ++ r.source.fields

/-- The payload of a TIMER_DEFINE of timer t as record `r`, with `n` in the period field. -/
def TimerRec.definePayload (t : Fin 24) (n : Nat) (r : TimerRec) : List Byte :=
  r.defineHead t n ++ r.source.scalePart ++ r.kind.duePart ++ r.outputPart ++ r.notice.toList ++ r.triggerPart

theorem cons_definitionBytes (t : Fin 24) (r : TimerRec) : byte t :: r.definitionBytes = r.definePayload t r.period :=
  rfl

/-- The period field written over with 0. -/
theorem definitionBytes_period_zero (t : Fin 24) (r : TimerRec) :
    (((byte t :: r.definitionBytes).set 4 0x00).set 5 0x00) = r.definePayload t 0 := rfl

/-! ### The flags byte -/

def TimerSource.isTime : TimerSource → Bool
  | .time _ => true
  | .parent _ => false
  | .input _ _ => false

def TimerKind.isAbsolute : TimerKind → Bool
  | .absolute _ => true
  | .relative => false

/-- The flags byte by the parts that are there (Table 11-7). -/
def flagsOf (scale due output notice trigger : Bool) : Nat :=
  scale.toNat + due.toNat * 2 + output.toNat * 4 + notice.toNat * 8 + trigger.toNat * 16

theorem flagsOf_bits : ∀ scale due output notice trigger : Bool,
    flagsOf scale due output notice trigger < 32 ∧
    (flagsOf scale due output notice trigger).testBit 0 = scale ∧
    (flagsOf scale due output notice trigger).testBit 1 = due ∧
    (flagsOf scale due output notice trigger).testBit 2 = output ∧
    (flagsOf scale due output notice trigger).testBit 3 = notice ∧
    (flagsOf scale due output notice trigger).testBit 4 = trigger := by
  decide

theorem flags_eq_flagsOf (r : TimerRec) :
    r.flags = flagsOf r.source.isTime r.kind.isAbsolute r.output.isSome r.notice.isSome r.trigger.isSome := by
  have hsource : (match r.source with
      | .time _ => 1
      | .parent _ => 0
      | .input _ _ => 0) = r.source.isTime.toNat := by
    cases r.source <;> rfl
  have hkind : (match r.kind with
      | .absolute _ => 2
      | .relative => 0) = r.kind.isAbsolute.toNat * 2 := by
    cases r.kind <;> rfl
  have hif (b : Bool) (k : Nat) : (if b then k else 0) = b.toNat * k := by
    cases b <;> simp
  rw [TimerRec.flags, flagsOf, hif, hif, hif]
  exact congrArg (· + _ + _ + _) (congr (congrArg _ hsource) hkind)

section Marks

variable (t : Fin 24) (n : Nat) (r : TimerRec)

theorem byteAt_flags : byteAt (r.definePayload t n) 3 = r.flags := by
  have hflags : r.flags < 256 := by
    rw [flags_eq_flagsOf]
    exact (flagsOf_bits ..).1.trans (by decide)
  exact toNat_byte hflags

theorem partMarked_scale : partMarked (r.definePayload t n) 0 = r.source.isTime := by
  rw [partMarked, byteAt_flags, flags_eq_flagsOf]
  exact (flagsOf_bits ..).2.1

theorem partMarked_due : partMarked (r.definePayload t n) 1 = r.kind.isAbsolute := by
  rw [partMarked, byteAt_flags, flags_eq_flagsOf]
  exact (flagsOf_bits ..).2.2.1

theorem partMarked_output : partMarked (r.definePayload t n) 2 = r.output.isSome := by
  rw [partMarked, byteAt_flags, flags_eq_flagsOf]
  exact (flagsOf_bits ..).2.2.2.1

theorem partMarked_notice : partMarked (r.definePayload t n) 3 = r.notice.isSome := by
  rw [partMarked, byteAt_flags, flags_eq_flagsOf]
  exact (flagsOf_bits ..).2.2.2.2.1

theorem partMarked_trigger : partMarked (r.definePayload t n) 4 = r.trigger.isSome := by
  rw [partMarked, byteAt_flags, flags_eq_flagsOf]
  exact (flagsOf_bits ..).2.2.2.2.2

/-! ### The offsets of the optional parts -/

theorem length_defineHead : (r.defineHead t n).length = 9 := by
  unfold TimerRec.defineHead
  cases r.source <;> rfl

theorem partSize_scale : partSize (r.definePayload t n) 0 1 = r.source.scalePart.length := by
  rw [partSize, partMarked_scale]
  cases r.source <;> rfl

theorem partSize_due : partSize (r.definePayload t n) 1 6 = r.kind.duePart.length := by
  rw [partSize, partMarked_due]
  cases r.kind <;> rfl

theorem partSize_output : partSize (r.definePayload t n) 2 4 = r.outputPart.length := by
  rw [partSize, partMarked_output, TimerRec.outputPart]
  cases r.output <;> rfl

theorem partSize_notice : partSize (r.definePayload t n) 3 1 = r.notice.toList.length := by
  rw [partSize, partMarked_notice]
  cases r.notice <;> rfl

theorem partSize_trigger : partSize (r.definePayload t n) 4 1 = r.triggerPart.length := by
  rw [partSize, partMarked_trigger, TimerRec.triggerPart]
  cases r.trigger <;> rfl

theorem dueWallOffset_eq :
    dueWallOffset (r.definePayload t n) = (r.defineHead t n ++ r.source.scalePart).length := by
  rw [dueWallOffset, partSize_scale, List.length_append, length_defineHead]

theorem outputOffset_eq :
    outputOffset (r.definePayload t n) = (r.defineHead t n ++ r.source.scalePart ++ r.kind.duePart).length := by
  rw [outputOffset, dueWallOffset_eq, partSize_due, List.length_append (bs := r.kind.duePart)]

theorem noticeOffset_eq :
    noticeOffset (r.definePayload t n) =
      (r.defineHead t n ++ r.source.scalePart ++ r.kind.duePart ++ r.outputPart).length := by
  rw [noticeOffset, outputOffset_eq, partSize_output, List.length_append (bs := r.outputPart)]

theorem triggerOffset_eq :
    triggerOffset (r.definePayload t n) =
      (r.defineHead t n ++ r.source.scalePart ++ r.kind.duePart ++ r.outputPart ++ r.notice.toList).length := by
  rw [triggerOffset, noticeOffset_eq, partSize_notice, List.length_append (bs := r.notice.toList)]

theorem timerDefineLength_eq : timerDefineLength (r.definePayload t n) = (r.definePayload t n).length := by
  rw [timerDefineLength, triggerOffset_eq, partSize_trigger, TimerRec.definePayload,
    List.length_append (bs := r.triggerPart)]

/-! ### Reading the parts back -/

theorem idAt_definePayload : idAt 24 (r.definePayload t n) 0 = some t := idAt_byte_fin24 t _

theorem ofCode_scaleCode (sc : Scale) : Scale.ofCode sc.code.toNat = some sc := by
  cases sc <;> rfl

theorem ofCode_edgeCode (e : Edge) : Edge.ofCode e.code.toNat = some e := by
  cases e <;> rfl

theorem ofCode_modeCode (m : TimerMode) : TimerMode.ofCode m.code.toNat = some m := by
  cases m <;> rfl

theorem parseTimerSource_definePayload (h : ∀ p, r.source = .parent p → p ≠ t) :
    parseTimerSource t (r.definePayload t n) = some r.source := by
  rw [parseTimerSource, partMarked_scale]
  unfold TimerRec.definePayload TimerRec.defineHead
  cases hs : r.source with
  | time sc => exact congrArg (Option.map _) (ofCode_scaleCode sc)
  | parent p =>
    simp [beBytes, TimerSource.fields, TimerSource.isTime, idAt_cons_succ, h p hs]
  | input i e =>
    simp [beBytes, TimerSource.fields, TimerSource.isTime, idAt_cons_succ, ofCode_edgeCode]

theorem ofCode_definePayload : TimerMode.ofCode (byteAt (r.definePayload t n) 2) = some r.mode := ofCode_modeCode r.mode

theorem timerPeriod_definePayload (h : n < 65536) : timerPeriod (r.definePayload t n) = max 1 n := by
  have hfield : fieldAt (r.definePayload t n) 4 2 = n := by
    have hread := fieldAt_zero_beBytes 2 n
      (r.source.fields ++ r.source.scalePart ++ r.kind.duePart ++ r.outputPart ++ r.notice.toList ++ r.triggerPart)
    exact hread.trans (Nat.mod_eq_of_lt h)
  rw [timerPeriod, hfield]

theorem parseTimerKind_definePayload
    (h : ∀ due, r.kind = .absolute due → due ≤ 140737488355327 ∧ ∃ sc, r.source = .time sc) :
    parseTimerKind r.source (r.definePayload t n) = some r.kind := by
  have hcode : byteAt (r.definePayload t n) 1 = r.kind.code.toNat := rfl
  unfold parseTimerKind
  rw [partMarked_due, hcode]
  cases hk : r.kind with
  | relative => rfl
  | absolute due =>
    obtain ⟨hdue, sc, hs⟩ := h due hk
    have hfield : fieldAt (r.definePayload t n) (dueWallOffset (r.definePayload t n)) 6 = due := by
      rw [dueWallOffset_eq, TimerRec.definePayload, hk, List.append_assoc, List.append_assoc, List.append_assoc]
      exact (fieldAt_append_right _ _ 0 6).trans ((fieldAt_zero_beBytes 6 due _).trans (Nat.mod_eq_of_lt (by omega)))
    rw [hs, hfield]
    simp [TimerKind.code, TimerKind.isAbsolute, Config.maxDueWall, hdue]

/-- An effect read back from its code and width bytes. -/
theorem parseEffect_append {l m : List Byte} {eff : Effect} (h : ∀ w, eff = .pulse w → 1 ≤ w ∧ w ≤ 65535) :
    parseEffect (l ++ (eff.code :: (beBytes 2 eff.widthField ++ m))) l.length = some eff := by
  have hcode : byteAt (l ++ (eff.code :: (beBytes 2 eff.widthField ++ m))) l.length = eff.code.toNat :=
    byteAt_append_right l _ 0
  unfold parseEffect
  rw [hcode]
  cases eff with
  | set => rfl
  | clear => rfl
  | toggle => rfl
  | pulse w =>
    obtain ⟨hpos, hle⟩ := h w rfl
    have hwidth : fieldAt (l ++ (Effect.code (.pulse w) :: (beBytes 2 w ++ m))) (l.length + 1) 2 = w :=
      (fieldAt_append_right l _ 1 2).trans ((fieldAt_zero_beBytes 2 w m).trans (Nat.mod_eq_of_lt (by omega)))
    simp only [Effect.widthField, hwidth]
    simp [Effect.code, Nat.ne_of_gt hpos]

theorem parseOutput_definePayload (h : ∀ a w, r.output = some a → a.effect = .pulse w → 1 ≤ w ∧ w ≤ 65535) :
    parseOutput (r.definePayload t n) = some r.output := by
  rw [parseOutput, partMarked_output]
  cases ho : r.output with
  | none => rfl
  | some a =>
    have hsplit : r.definePayload t n =
        (r.defineHead t n ++ r.source.scalePart ++ r.kind.duePart) ++ (byte a.line :: (a.effect.code ::
          (beBytes 2 a.effect.widthField ++ (r.notice.toList ++ r.triggerPart)))) := by
      simp only [TimerRec.definePayload, TimerRec.outputPart, ho, List.append_assoc, List.cons_append, List.nil_append]
    have hid : idAt 8 (r.definePayload t n) (outputOffset (r.definePayload t n)) = some a.line := by
      rw [outputOffset_eq, hsplit]
      exact (idAt_append_right 8 _ _ 0).trans (idAt_byte_fin8 a.line _)
    have heff : parseEffect (r.definePayload t n) (outputOffset (r.definePayload t n) + 1) = some a.effect := by
      have hread := parseEffect_append (l := r.defineHead t n ++ r.source.scalePart ++ r.kind.duePart ++ [byte a.line])
        (m := r.notice.toList ++ r.triggerPart) (h a · ho)
      rw [List.length_append, List.append_assoc] at hread
      rw [outputOffset_eq, hsplit]
      exact hread
    rw [hid, heff]
    rfl

theorem parseNoticeTag_definePayload : parseNoticeTag (r.definePayload t n) = r.notice := by
  rw [parseNoticeTag, partMarked_notice]
  cases hn : r.notice with
  | none => rfl
  | some tag =>
    rw [noticeOffset_eq, TimerRec.definePayload, hn, List.append_assoc]
    exact congrArg some ((congrArg byte (byteAt_append_right _ _ 0)).trans (byte_toNat tag))

theorem parseTrigger_definePayload (h : ∀ u, r.trigger = some u → u ≠ t) :
    parseTrigger t (r.definePayload t n) = some r.trigger := by
  rw [parseTrigger, partMarked_trigger]
  cases hu : r.trigger with
  | none => rfl
  | some u =>
    have hid : idAt 24 (r.definePayload t n) (triggerOffset (r.definePayload t n)) = some u := by
      rw [triggerOffset_eq, TimerRec.definePayload, TimerRec.triggerPart, hu]
      exact (idAt_append_right 24 _ _ 0).trans (idAt_byte_fin24 u [])
    rw [hid]
    simp [h u hu]

end Marks

/-- A definable record has the state and counts of a fresh definition. -/
theorem definable_fresh {t : Fin 24} {r : TimerRec} (h : r.definable t) :
    { r with state := .idle, remaining := r.period, fires := 0, lateCount := 0 } = r := by
  obtain ⟨hfires, hlate⟩ := h.counts
  have hidle := h.idle
  have hremaining := h.remaining
  cases r
  simp_all only

/-- A definition read back from its payload, the period sent as it is or, for a period of 1, as 0 (R24). -/
theorem parseTimer_definePayload {t : Fin 24} {r : TimerRec} (h : r.definable t) {n : Nat} (hn : max 1 n = r.period) :
    parseTimer t (r.definePayload t n) = some r := by
  have hflags : ¬32 ≤ byteAt (r.definePayload t n) 3 := by
    rw [byteAt_flags, flags_eq_flagsOf, Nat.not_le]
    exact (flagsOf_bits ..).1
  have hsize : n < 65536 := by
    have := h.period
    omega
  rw [parseTimer, if_neg hflags, parseTimerSource_definePayload t n r h.parent, ofCode_definePayload,
    parseOutput_definePayload t n r h.width, parseTrigger_definePayload t n r h.trigger]
  dsimp only
  rw [parseTimerKind_definePayload t n r h.absolute, parseNoticeTag_definePayload,
    timerPeriod_definePayload t n r hsize, hn]
  exact congrArg some (definable_fresh h)

/-- The payload length that suits TIMER_DEFINE is the one its flags call for (R191). -/
theorem lengthFits_timerDefine (p : List Byte) :
    Request.timerDefine.lengthFits p = true ↔ 4 ≤ p.length ∧ p.length = timerDefineLength p := by
  simp only [Request.lengthFits, Bool.and_eq_true, decide_eq_true_eq, beq_iff_eq]
  rfl

/-- The payload of a definition has the right length. -/
theorem definePayload_lengthFits (t : Fin 24) (n : Nat) (r : TimerRec) :
    Request.timerDefine.lengthFits (r.definePayload t n) = true := by
  refine (lengthFits_timerDefine _).2 ⟨?_, (timerDefineLength_eq ..).symm⟩
  simp only [TimerRec.definePayload, List.length_append, length_defineHead]
  omega

/-- Settles O6: the length is the one the flags call for, and every field and part is read back. -/
theorem timerDefinitionRoundTrip : Obligations.TimerDefinitionRoundTrip := by
  intro t r h
  rw [cons_definitionBytes]
  exact ⟨definePayload_lengthFits t r.period r, idAt_definePayload t r.period r,
    parseTimer_definePayload h (Nat.max_eq_right h.period.1)⟩

end Sys2Proof.Machine
end

section
/-! What an accepted TIMER_DEFINE stores (R25 to R30). -/

namespace Sys2Proof.Machine

/-! ### The checks, one by one -/

theorem parentFree_iff {d : Device} {r : TimerRec} :
    d.parentFree r = true ↔ ∃ p, r.source = .parent p ∧ d.timers[p] = none := by
  unfold Device.parentFree
  cases r.source <;> simp

theorem boundElsewhere_iff {d : Device} {t : Fin 24} {r : TimerRec} :
    d.boundElsewhere t r = true ↔ ∃ a u, r.output = some a ∧ d.lines[a.line].binding = some u ∧ u ≠ t := by
  unfold Device.boundElsewhere
  cases r.output with
  | none => simp
  | some a => cases hb : d.lines[a.line].binding <;> simp [hb, -Fin.getElem_fin]

theorem countLineTaken_iff {d : Device} {t : Fin 24} {r : TimerRec} :
    d.countLineTaken t r = true ↔
      ∃ n e, r.source = .input n e ∧ d.inputs[n].role ≠ .none ∧ d.inputs[n].role ≠ .count t := by
  unfold Device.countLineTaken
  cases r.source <;> simp

theorem timerBusy_iff {d : Device} {t : Fin 24} :
    d.timerBusy t = true ↔ ∃ old, d.timers[t] = some old ∧ old.state ≠ .idle := by
  unfold Device.timerBusy
  cases d.timers[t] <;> simp

/-! ### Taking a definition -/

/-- A definition that passes the checks, by what is read from its payload. -/
theorem takeTimerDefine_accepted {p : List Byte} {d : Device} {t : Fin 24} {r : TimerRec}
    (hlen : Request.timerDefine.lengthFits p = true) (hid : idAt 24 p 0 = some t) (hparse : parseTimer t p = some r)
    (hcheck : d.timerDefineCheck t r = .ok) :
    takeTimerDefine p d =
      (d.defineTimer t r,
        (if fieldAt p 4 2 = 0 then Status.adjusted else Status.ok).code :: [byte t, 0x01] ++ beBytes 2 r.period) := by
  obtain ⟨hmin, hlen⟩ := (lengthFits_timerDefine p).1 hlen
  rw [takeTimerDefine, if_neg (by omega), hid]
  simp only [hparse, hcheck]
  rfl

/-- A definition that a check refuses. -/
theorem takeTimerDefine_refused {p : List Byte} {d : Device} {t : Fin 24} {r : TimerRec} {st : Status}
    (hlen : Request.timerDefine.lengthFits p = true) (hid : idAt 24 p 0 = some t) (hparse : parseTimer t p = some r)
    (hcheck : d.timerDefineCheck t r = st) (hst : st ≠ .ok) : takeTimerDefine p d = (d, st.code :: p.take 1) := by
  obtain ⟨hmin, hlen⟩ := (lengthFits_timerDefine p).1 hlen
  rw [takeTimerDefine, if_neg (by omega), hid]
  simp only [hparse, hcheck]
  rfl

/-- The period field of a definition's payload. -/
theorem fieldAt_period (t : Fin 24) {n : Nat} (h : n < 65536) (r : TimerRec) : fieldAt (r.definePayload t n) 4 2 = n :=
  (fieldAt_zero_beBytes 2 n
    (r.source.fields ++ r.source.scalePart ++ r.kind.duePart ++ r.outputPart ++ r.notice.toList ++ r.triggerPart)).trans
    (Nat.mod_eq_of_lt h)

/-! ### The claims of the old and the new definition -/

theorem releaseClaims_lines_getElem (r : TimerRec) (d : Device) (n : Fin 8) :
    (d.releaseClaims r).lines[n] =
      if r.output.map OutputAction.line = some n then { d.lines[n] with shadow := .rest, binding := none, pulseEnd := none }
      else d.lines[n] := by
  rw [releaseClaims_eq]
  cases r.output with
  | none => simp
  | some a =>
    dsimp only
    rw [getElem_set_fin]
    by_cases h : n = a.line <;> simp [h, eq_comm]

theorem releaseClaims_inputs_getElem (r : TimerRec) (d : Device) (n : Fin 8) :
    (d.releaseClaims r).inputs[n] =
      if r.source.inputLine = some n then { d.inputs[n] with role := .none } else d.inputs[n] := by
  rw [releaseClaims_eq]
  cases r.source with
  | time sc => simp [TimerSource.inputLine]
  | parent p => simp [TimerSource.inputLine]
  | input m e =>
    dsimp only [TimerSource.inputLine]
    rw [getElem_set_fin]
    by_cases h : n = m <;> simp [h, eq_comm]

theorem takeClaims_lines_getElem (t : Fin 24) (r : TimerRec) (d : Device) (n : Fin 8) :
    (d.takeClaims t r).lines[n] =
      if r.output.map OutputAction.line = some n then { d.lines[n] with binding := some t, shadow := .rest }
      else d.lines[n] := by
  unfold Device.takeClaims
  cases r.output with
  | none => cases r.source <;> simp
  | some a => cases r.source <;> by_cases h : n = a.line <;> simp [getElem_set_fin, h, eq_comm, -Fin.getElem_fin]

theorem takeClaims_inputs_getElem (t : Fin 24) (r : TimerRec) (d : Device) (n : Fin 8) :
    (d.takeClaims t r).inputs[n] =
      if r.source.inputLine = some n then { d.inputs[n] with role := .count t } else d.inputs[n] := by
  unfold Device.takeClaims
  cases r.source with
  | time sc => cases r.output <;> simp [TimerSource.inputLine]
  | parent p => cases r.output <;> simp [TimerSource.inputLine]
  | input m e =>
    cases r.output <;> by_cases h : n = m <;>
      simp [TimerSource.inputLine, getElem_set_fin, h, eq_comm, -Fin.getElem_fin]

/-- A table by its places. -/
theorem eq_ofFn_of_getElem {α : Type} {n : Nat} {v : Vector α n} {f : Fin n → α} (h : ∀ i : Fin n, v[i] = f i) :
    v = Vector.ofFn f :=
  Vector.ext fun i hi => (h ⟨i, hi⟩).trans (Vector.getElem_ofFn hi).symm

theorem defineTimer_lines_getElem (t : Fin 24) (r : TimerRec) (d : Device) (n : Fin 8) :
    (d.defineTimer t r).lines[n] =
      if r.output.map OutputAction.line = some n then
        { d.lines[n] with
          shadow := .rest, binding := some t
          pulseEnd := if (d.timers[t].bind TimerRec.output).map OutputAction.line = some n then none
            else d.lines[n].pulseEnd }
      else if (d.timers[t].bind TimerRec.output).map OutputAction.line = some n then
        { d.lines[n] with shadow := .rest, binding := none, pulseEnd := none }
      else d.lines[n] := by
  unfold Device.defineTimer
  rw [takeClaims_lines_getElem, Device.setTimer_lines]
  cases d.timers[t] with
  | none => simp
  | some old =>
    dsimp only [Option.bind_some]
    rw [releaseClaims_lines_getElem]
    split <;> split <;> rfl

theorem defineTimer_inputs_getElem (t : Fin 24) (r : TimerRec) (d : Device) (n : Fin 8) :
    (d.defineTimer t r).inputs[n] =
      if r.source.inputLine = some n then { d.inputs[n] with role := .count t }
      else if d.timers[t].bind (fun old => old.source.inputLine) = some n then { d.inputs[n] with role := .none }
      else d.inputs[n] := by
  unfold Device.defineTimer
  rw [takeClaims_inputs_getElem, Device.setTimer_inputs]
  cases d.timers[t] with
  | none => simp
  | some old =>
    dsimp only [Option.bind_some]
    rw [releaseClaims_inputs_getElem]
    split <;> split <;> rfl

theorem defineTimer_deadlines (t : Fin 24) (r : TimerRec) (d : Device) :
    (d.defineTimer t r).deadlines =
      match (d.timers[t].bind TimerRec.output).map OutputAction.line with
      | some n => d.deadlines.filter (fun e => e.owner ≠ .pulse n)
      | none => d.deadlines := by
  unfold Device.defineTimer
  rw [takeClaims_deadlines, Device.setTimer_deadlines]
  cases d.timers[t] with
  | none => rfl
  | some old =>
    dsimp only [Option.bind_some]
    rw [releaseClaims_eq]
    cases old.output <;> simp

/-- A definition changes only its timer, the lines, the roles and the deadline list. -/
theorem defineTimer_changes (t : Fin 24) (r : TimerRec) (d : Device) :
    d.defineTimer t r =
      { d with
        timers := d.timers.set t (some r)
        lines := (d.defineTimer t r).lines
        inputs := (d.defineTimer t r).inputs
        deadlines := (d.defineTimer t r).deadlines } := by
  unfold Device.defineTimer
  cases d.timers[t] with
  | none =>
    unfold Device.takeClaims
    cases r.output <;> cases r.source <;> rfl
  | some old =>
    dsimp only
    rw [releaseClaims_eq]
    unfold Device.takeClaims
    cases r.output <;> cases r.source <;> rfl

/-- An accepted definition, field by field (R29). -/
theorem defineTimer_eq (t : Fin 24) (r : TimerRec) (d : Device) :
    let oldLine := (d.timers[t].bind TimerRec.output).map OutputAction.line
    let newLine := r.output.map OutputAction.line
    let oldInput := d.timers[t].bind (fun old => old.source.inputLine)
    d.defineTimer t r =
      { d with
        timers := d.timers.set t (some r)
        lines := Vector.ofFn (fun n =>
          if newLine = some n then { d.lines[n] with
              shadow := .rest, binding := some t, pulseEnd := if oldLine = some n then none else d.lines[n].pulseEnd }
          else if oldLine = some n then { d.lines[n] with shadow := .rest, binding := none, pulseEnd := none }
          else d.lines[n])
        inputs := Vector.ofFn (fun n =>
          if r.source.inputLine = some n then { d.inputs[n] with role := .count t }
          else if oldInput = some n then { d.inputs[n] with role := .none }
          else d.inputs[n])
        deadlines := match oldLine with
          | some n => d.deadlines.filter (fun e => e.owner ≠ .pulse n)
          | none => d.deadlines } := by
  intro oldLine newLine oldInput
  have h := defineTimer_changes t r d
  rw [eq_ofFn_of_getElem (defineTimer_lines_getElem t r d), eq_ofFn_of_getElem (defineTimer_inputs_getElem t r d),
    defineTimer_deadlines] at h
  exact h

/-- Settles O17: the payload is read back, every check passes, and the definition is stored field by field. -/
theorem timerDefineStores : Obligations.TimerDefineStores := by
  intro s tag t r hready hr hidle hparent hchain hbound hinput oldLine newLine oldInput d
  have hcheck : s.toDevice.timerDefineCheck t r = .ok := by
    have hfree : ¬s.toDevice.parentFree r = true := by
      rw [parentFree_iff]
      rintro ⟨p, hp, hnone⟩
      simpa [hnone] using hparent p hp
    have helse : ¬s.toDevice.boundElsewhere t r = true := by
      rw [boundElsewhere_iff]
      rintro ⟨a, u, ha, hu, hne⟩
      exact hne (hbound a u ha hu)
    have htaken : ¬s.toDevice.countLineTaken t r = true := by
      rw [countLineTaken_iff]
      rintro ⟨n, e, hs, hnone, hcount⟩
      exact (hinput n e hs).elim hnone hcount
    have hbusy : ¬s.toDevice.timerBusy t = true := by
      rw [timerBusy_iff]
      rintro ⟨old, hold, hne⟩
      exact hne (hidle old hold)
    rw [Device.timerDefineCheck, if_neg hfree, if_neg helse, if_neg htaken, if_neg hbusy, hchain]
  have htake (n : Nat) (hn : max 1 n = r.period) := takeTimerDefine_accepted (definePayload_lengthFits t n r)
    (idAt_definePayload t n r) (parseTimer_definePayload hr hn) hcheck
  obtain ⟨hpos, hle⟩ := hr.period
  refine ⟨?_, fun hone => ?_⟩
  · have hsent := htake r.period (Nat.max_eq_right hpos)
    rw [fieldAt_period t (by omega) r, if_neg (by omega), defineTimer_eq] at hsent
    rw [cons_definitionBytes]
    exact exec_taken hready .timerDefine tag hsent
  · have hsent := htake 0 hone.symm
    rw [fieldAt_period t (by omega) r, if_pos rfl, defineTimer_eq, hone] at hsent
    rw [definitionBytes_period_zero]
    exact exec_taken hready .timerDefine tag hsent

end Sys2Proof.Machine
end

section
/-! What the timer requests refuse (R24 to R28, R31, R34, R37, R39 to R41, R179, R188). -/

namespace Sys2Proof.Machine

/-! ### Values out of range -/

theorem idAt_none {n : Nat} {p : List Byte} {i : Nat} (h : n ≤ byteAt p i) : idAt n p i = none :=
  dif_neg (Nat.not_lt.2 h)

/-- Two places with the same byte hold the same identifier. -/
theorem idAt_congr {n : Nat} {p : List Byte} {i j : Nat} (h : byteAt p i = byteAt p j) : idAt n p i = idAt n p j := by
  simp only [idAt, h]

theorem scaleOfCode_none {k : Nat} (h : 3 < k) : Scale.ofCode k = none := by
  obtain ⟨n, rfl⟩ := Nat.exists_eq_add_of_lt h
  rw [show 3 + n + 1 = n + 4 by omega]
  rfl

theorem edgeOfCode_none {k : Nat} (h : 2 < k) : Edge.ofCode k = none := by
  obtain ⟨n, rfl⟩ := Nat.exists_eq_add_of_lt h
  rw [show 2 + n + 1 = n + 3 by omega]
  rfl

theorem modeOfCode_none {k : Nat} (h : 1 < k) : TimerMode.ofCode k = none := by
  obtain ⟨n, rfl⟩ := Nat.exists_eq_add_of_lt h
  rw [show 1 + n + 1 = n + 2 by omega]
  rfl

/-- Two zero bytes are a field of value 0. -/
theorem fieldAt_two_zero {p : List Byte} {i : Nat} (h0 : byteAt p i = 0) (h1 : byteAt p (i + 1) = 0) :
    fieldAt p i 2 = 0 := by
  have hdrop (k : Nat) : byteAt p (i + k) = byteAt (p.drop i) k := by
    simp only [byteAt, List.getD_eq_getElem?_getD, List.getElem?_drop]
  rw [← Nat.add_zero i, hdrop] at h0
  rw [hdrop] at h1
  rw [fieldAt]
  match hp : p.drop i with
  | [] => rfl
  | [a] => simpa [hp, beValue] using h0
  | a :: b :: _ => simp_all [beValue]

/-! ### The source -/

section Parts

variable {t : Fin 24} {p : List Byte}

theorem parseTimerSource_none_of_code (h : 2 < byteAt p 6) : parseTimerSource t p = none := by
  obtain ⟨n, hn⟩ := Nat.exists_eq_add_of_lt h
  rw [show 2 + n + 1 = n + 3 by omega] at hn
  unfold parseTimerSource
  rw [hn]
  rfl

/-- A parent out of range, or the timer itself. -/
theorem parseTimerSource_none_of_parent (hsrc : byteAt p 6 = 1)
    (h : 23 < byteAt p 7 ∨ idAt 24 p 7 = some t) : parseTimerSource t p = none := by
  unfold parseTimerSource
  rw [hsrc]
  rcases h with h | h
  · simp [idAt_none h]
  · simp [h]

theorem parseTimerSource_none_of_input (hsrc : byteAt p 6 = 2) (h : 7 < byteAt p 7 ∨ 2 < byteAt p 8) :
    parseTimerSource t p = none := by
  unfold parseTimerSource
  rw [hsrc]
  rcases h with h | h
  · simp [idAt_none h]
  · simp [edgeOfCode_none h]

/-- The scale flag goes with a TIME source alone. -/
theorem parseTimerSource_none_of_flag (h : partMarked p 0 = true ↔ byteAt p 6 ≠ 0) : parseTimerSource t p = none := by
  unfold parseTimerSource
  split
  · next h0 => simp [h, h0]
  · next h1 => simp [h, h1]
  · next h2 => simp [h, h2]
  · rfl

theorem parseTimerSource_none_of_scale (hmark : partMarked p 0 = true) (h : 3 < byteAt p 9) :
    parseTimerSource t p = none := by
  unfold parseTimerSource
  split
  · simp [scaleOfCode_none h]
  · simp [hmark]
  · simp [hmark]
  · rfl

/-- Only the source code 0 is read as TIME. -/
theorem code_zero_of_parseTimerSource_time {sc : Scale} (h : parseTimerSource t p = some (.time sc)) : byteAt p 6 = 0 := by
  unfold parseTimerSource at h
  split at h
  · assumption
  · simp [Option.bind_eq_some_iff] at h
  · simp [Option.bind_eq_some_iff] at h
  · cases h

/-! ### The kind -/

theorem parseTimerKind_none_of_code {source : TimerSource} (h : 1 < byteAt p 1) : parseTimerKind source p = none := by
  obtain ⟨n, hn⟩ := Nat.exists_eq_add_of_lt h
  rw [show 1 + n + 1 = n + 2 by omega] at hn
  unfold parseTimerKind
  rw [hn]
  cases source <;> rfl

/-- ABSOLUTE goes with a TIME source alone. -/
theorem parseTimerKind_none_of_source {source : TimerSource} (hkind : byteAt p 1 = 1) (h : ∀ sc, source ≠ .time sc) :
    parseTimerKind source p = none := by
  unfold parseTimerKind
  rw [hkind]
  cases source with
  | time sc => exact absurd rfl (h sc)
  | parent _ => rfl
  | input _ _ => rfl

/-- The due wall flag goes with ABSOLUTE alone. -/
theorem parseTimerKind_none_of_flag {source : TimerSource} (h : partMarked p 1 = true ↔ byteAt p 1 = 0) :
    parseTimerKind source p = none := by
  unfold parseTimerKind
  split
  · next h0 => simp [h, h0]
  · next h1 => simp [h, h1]
  · rfl

theorem parseTimerKind_none_of_due {source : TimerSource} (hmark : partMarked p 1 = true)
    (h : 140737488355327 < fieldAt p (dueWallOffset p) 6) : parseTimerKind source p = none := by
  unfold parseTimerKind
  split
  · simp [hmark]
  · exact if_neg fun hdue => Nat.not_le.2 h hdue.2
  · rfl

/-! ### The actions -/

theorem parseEffect_none_of_code {i : Nat} (h : 3 < byteAt p i) : parseEffect p i = none := by
  obtain ⟨n, hn⟩ := Nat.exists_eq_add_of_lt h
  rw [show 3 + n + 1 = n + 4 by omega] at hn
  unfold parseEffect
  rw [hn]
  rfl

theorem parseEffect_none_of_width {i : Nat} (hcode : byteAt p i = 3) (h : fieldAt p (i + 1) 2 = 0) :
    parseEffect p i = none := by
  unfold parseEffect
  rw [hcode]
  exact if_pos h

theorem parseOutput_none_of_line (hmark : partMarked p 2 = true) (h : 7 < byteAt p (outputOffset p)) :
    parseOutput p = none := by
  simp [parseOutput, hmark, idAt_none h]

theorem parseOutput_none_of_effect (hmark : partMarked p 2 = true) (h : parseEffect p (outputOffset p + 1) = none) :
    parseOutput p = none := by
  simp [parseOutput, hmark, h]

/-- A trigger target out of range, or the timer itself. -/
theorem parseTrigger_none (hmark : partMarked p 4 = true)
    (h : 23 < byteAt p (triggerOffset p) ∨ idAt 24 p (triggerOffset p) = some t) : parseTrigger t p = none := by
  rcases h with h | h
  · simp [parseTrigger, hmark, idAt_none h]
  · simp [parseTrigger, hmark, h]

/-! ### The definition -/

theorem parseTimer_none_of_flags (h : 31 < byteAt p 3) : parseTimer t p = none := if_pos h

theorem parseTimer_none_of_source (h : parseTimerSource t p = none) : parseTimer t p = none := by
  rw [parseTimer, h]
  exact ite_self _

theorem parseTimer_none_of_mode (h : TimerMode.ofCode (byteAt p 2) = none) : parseTimer t p = none := by
  rw [parseTimer, h]
  cases parseTimerSource t p <;> exact ite_self _

theorem parseTimer_none_of_output (h : parseOutput p = none) : parseTimer t p = none := by
  rw [parseTimer, h]
  cases parseTimerSource t p <;> cases TimerMode.ofCode (byteAt p 2) <;> exact ite_self _

theorem parseTimer_none_of_trigger (h : parseTrigger t p = none) : parseTimer t p = none := by
  rw [parseTimer, h]
  cases parseTimerSource t p <;> cases TimerMode.ofCode (byteAt p 2) <;> cases parseOutput p <;> exact ite_self _

theorem parseTimer_none_of_kind (h : ∀ source, parseTimerSource t p = some source → parseTimerKind source p = none) :
    parseTimer t p = none := by
  cases hs : parseTimerSource t p with
  | none => exact parseTimer_none_of_source hs
  | some source =>
    rw [parseTimer, hs]
    split
    · rfl
    · split
      · next hsource _ _ _ =>
        cases hsource
        rw [h source hs]
        rfl
      · rfl

end Parts

/-! ### Refusals of TIMER_DEFINE -/

/-- A definition with an argument out of range, or arguments that do not go together. -/
theorem takeTimerDefine_badArg {p : List Byte} (hlen : Request.timerDefine.lengthFits p = true) (d : Device)
    (h : ∀ t, idAt 24 p 0 = some t → parseTimer t p = none) : takeTimerDefine p d = (d, 0x12 :: p.take 1) := by
  obtain ⟨hmin, hlen⟩ := (lengthFits_timerDefine p).1 hlen
  rw [takeTimerDefine, if_neg (by omega)]
  cases hid : idAt 24 p 0 with
  | none => rfl
  | some t =>
    simp only [h t hid]
    rfl

/-- The conditions of R24 and R188 under which the arguments of a TIMER_DEFINE of timer t are refused. -/
def badTimerArgs (p : List Byte) : Prop :=
  1 < byteAt p 1 ∨ 1 < byteAt p 2 ∨ 31 < byteAt p 3 ∨ 2 < byteAt p 6 ∨
    (byteAt p 6 = 1 ∧ (23 < byteAt p 7 ∨ byteAt p 7 = byteAt p 0)) ∨
    (byteAt p 6 = 2 ∧ (7 < byteAt p 7 ∨ 2 < byteAt p 8)) ∨ (byteAt p 1 = 1 ∧ byteAt p 6 ≠ 0) ∨
    (partMarked p 0 = true ↔ byteAt p 6 ≠ 0) ∨ (partMarked p 0 = true ∧ 3 < byteAt p 9) ∨
    (partMarked p 1 = true ↔ byteAt p 1 = 0) ∨
    (partMarked p 1 = true ∧ 140737488355327 < fieldAt p (dueWallOffset p) 6) ∨
    (partMarked p 2 = true ∧ (7 < byteAt p (outputOffset p) ∨ 3 < byteAt p (outputOffset p + 1) ∨
      (byteAt p (outputOffset p + 1) = 3 ∧ byteAt p (outputOffset p + 2) = 0 ∧ byteAt p (outputOffset p + 3) = 0))) ∨
    (partMarked p 4 = true ∧ (23 < byteAt p (triggerOffset p) ∨ byteAt p (triggerOffset p) = byteAt p 0))

theorem parseTimer_badTimerArgs {t : Fin 24} {p : List Byte} (hid : idAt 24 p 0 = some t) (h : badTimerArgs p) :
    parseTimer t p = none := by
  rcases h with h | h | h | h | ⟨hsrc, h⟩ | ⟨hsrc, h⟩ | ⟨hkind, hsrc⟩ | h | ⟨hmark, h⟩ | h | ⟨hmark, h⟩ |
    ⟨hmark, h⟩ | ⟨hmark, h⟩
  · exact parseTimer_none_of_kind fun _ _ => parseTimerKind_none_of_code h
  · exact parseTimer_none_of_mode (modeOfCode_none h)
  · exact parseTimer_none_of_flags h
  · exact parseTimer_none_of_source (parseTimerSource_none_of_code h)
  · exact parseTimer_none_of_source
      (parseTimerSource_none_of_parent hsrc (h.imp_right fun heq => (idAt_congr heq).trans hid))
  · exact parseTimer_none_of_source (parseTimerSource_none_of_input hsrc h)
  · refine parseTimer_none_of_kind fun source hsource => parseTimerKind_none_of_source hkind fun sc htime => ?_
    exact hsrc (code_zero_of_parseTimerSource_time (htime ▸ hsource))
  · exact parseTimer_none_of_source (parseTimerSource_none_of_flag h)
  · exact parseTimer_none_of_source (parseTimerSource_none_of_scale hmark h)
  · exact parseTimer_none_of_kind fun _ _ => parseTimerKind_none_of_flag h
  · exact parseTimer_none_of_kind fun _ _ => parseTimerKind_none_of_due hmark h
  · refine parseTimer_none_of_output ?_
    rcases h with h | h | ⟨hcode, h0, h1⟩
    · exact parseOutput_none_of_line hmark h
    · exact parseOutput_none_of_effect hmark (parseEffect_none_of_code h)
    · exact parseOutput_none_of_effect hmark (parseEffect_none_of_width hcode (fieldAt_two_zero h0 h1))
  · exact parseTimer_none_of_trigger (parseTrigger_none hmark (h.imp_right fun heq => (idAt_congr heq).trans hid))

/-! ### Loops and depth -/

theorem reaches_self (parent : Fin 24 → Option (Fin 24)) (fuel : Nat) (x : Fin 24) :
    reaches parent (fuel + 1) x x = true := by
  simp [reaches]

/-- One parent link up. -/
theorem reaches_of_parent {parent : Fin 24 → Option (Fin 24)} {fuel : Nat} {x p y : Fin 24} (hp : parent x = some p)
    (h : reaches parent fuel p y = true) : reaches parent (fuel + 1) x y = true := by
  simp [reaches, hp, h]

/-- A timer reached by at most three parent links has the other in its subtree (R22). -/
theorem inSubtree_of_parents {d : Device} {t p : Fin 24}
    (h : p = t ∨ d.parentOf p = some t ∨ (d.parentOf p).bind d.parentOf = some t ∨
      ((d.parentOf p).bind d.parentOf).bind d.parentOf = some t) : d.inSubtree t p = true := by
  rcases h with rfl | h1 | h2 | h3
  · exact reaches_self _ 23 p
  · exact reaches_of_parent h1 (reaches_self _ 22 t)
  · obtain ⟨x, hx, h2⟩ := Option.bind_eq_some_iff.1 h2
    exact reaches_of_parent hx (reaches_of_parent h2 (reaches_self _ 21 t))
  · obtain ⟨y, hy, h3⟩ := Option.bind_eq_some_iff.1 h3
    obtain ⟨x, hx, hy⟩ := Option.bind_eq_some_iff.1 hy
    exact reaches_of_parent hx (reaches_of_parent hy (reaches_of_parent h3 (reaches_self _ 20 t)))

theorem chainCheck_loop {d : Device} {t p : Fin 24} (h : d.inSubtree t p = true) :
    d.chainCheck t (.parent p) = .chainLoop := if_pos h

theorem chainCheck_depth {d : Device} {t p : Fin 24} (hloop : d.inSubtree t p = false)
    (h : ∃ x, d.inSubtree t x = true ∧ 4 < chainDepth (d.parentsWith t p) 24 x) :
    d.chainCheck t (.parent p) = .chainDepth := by
  obtain ⟨x, hx, hdeep⟩ := h
  have hany : (List.finRange 24).any (fun x =>
      d.inSubtree t x && decide (Config.chainDepthLimit < chainDepth (d.parentsWith t p) 24 x)) = true :=
    List.any_eq_true.2 ⟨x, List.mem_finRange x, by simp [hx, Config.chainDepthLimit, hdeep]⟩
  rw [Device.chainCheck, hloop, hany]
  rfl

/-! ### Refusals of the one-byte requests -/

/-- The six one-byte timer requests share their checks of length, id and existence. -/
theorem takeRequest_withTimer {q : Request}
    (hq : q ∈ [Request.timerStart, .timerStop, .timerPause, .timerResume, .timerFree, .timerQuery]) (p : List Byte)
    (d : Device) : ∃ act, takeRequest q p d = withTimer p d act := by
  simp only [List.mem_cons, List.not_mem_nil, or_false] at hq
  rcases hq with rfl | rfl | rfl | rfl | rfl | rfl <;> exact ⟨_, rfl⟩

theorem takeTimerStart_busy {d : Device} {t : Fin 24} {r : TimerRec} (h : d.timers[t] = some r) (hs : r.state ≠ .idle) :
    takeTimerStart [byte t] d = (d, [0x18, byte t]) := by
  rw [takeTimerStart, withTimer_defined h]
  cases hst : r.state with
  | idle => exact absurd hst hs
  | running => rfl
  | paused => rfl

theorem takeTimerPause_absolute {d : Device} {t : Fin 24} {r : TimerRec} (h : d.timers[t] = some r)
    (hk : r.kind ≠ .relative) : takeTimerPause [byte t] d = (d, [0x12, byte t]) := by
  rw [takeTimerPause, withTimer_defined h]
  cases hkind : r.kind with
  | relative => exact absurd hkind hk
  | absolute due => rfl

theorem takeTimerPause_notRunning {d : Device} {t : Fin 24} {r : TimerRec} (h : d.timers[t] = some r)
    (hk : r.kind = .relative) (hs : r.state ≠ .running) : takeTimerPause [byte t] d = (d, [0x18, byte t]) := by
  rw [takeTimerPause, withTimer_defined h, hk]
  cases hst : r.state with
  | idle => rfl
  | running => exact absurd hst hs
  | paused => rfl

theorem takeTimerResume_notPaused {d : Device} {t : Fin 24} {r : TimerRec} (h : d.timers[t] = some r)
    (hs : r.state ≠ .paused) : takeTimerResume [byte t] d = (d, [0x18, byte t]) := by
  rw [takeTimerResume, withTimer_defined h]
  cases hst : r.state with
  | idle => rfl
  | running => rfl
  | paused => exact absurd hst hs

/-- Settles O18: the argument conditions make the parse fail, the checks are taken in their order, and the one-byte
requests refuse by id, existence, kind and state. -/
theorem timerRequestsRefusedInOrder : Obligations.TimerRequestsRefusedInOrder := by
  refine ⟨?_, ?_, ?_⟩
  · intro s tag p hready hlen b has due out trig hbad
    refine exec_taken hready .timerDefine tag (takeTimerDefine_badArg hlen s.toDevice fun t hid => ?_)
    rcases hbad with hrange | hbad
    · rw [idAt_none hrange] at hid
      cases hid
    · exact parseTimer_badTimerArgs hid hbad
  · intro s tag t r hready hr refused freeParent boundElsewhere inputTaken busy
    have htake (st : Status) (hst : st ≠ .ok) (hcheck : s.toDevice.timerDefineCheck t r = st) : refused st.code :=
      exec_taken hready .timerDefine tag (takeTimerDefine_refused (definePayload_lengthFits t r.period r)
        (idAt_definePayload t r.period r) (parseTimer_definePayload hr (Nat.max_eq_right hr.period.1)) hcheck hst)
    refine ⟨fun hfree => htake .noSuch (by decide) ?_, fun hfree hbound => htake .lineBound (by decide) ?_,
      fun hfree hbound htaken => htake .inUse (by decide) ?_,
      fun hfree hbound htaken hbusy => htake .wrongState (by decide) ?_,
      fun hfree hbound htaken hbusy _ p hsrc => ?_⟩
    · rw [Device.timerDefineCheck, if_pos (parentFree_iff.2 hfree)]
    · rw [Device.timerDefineCheck, if_neg (mt parentFree_iff.1 hfree), if_pos (boundElsewhere_iff.2 hbound)]
    · rw [Device.timerDefineCheck, if_neg (mt parentFree_iff.1 hfree), if_neg (mt boundElsewhere_iff.1 hbound),
        if_pos (countLineTaken_iff.2 htaken)]
    · rw [Device.timerDefineCheck, if_neg (mt parentFree_iff.1 hfree), if_neg (mt boundElsewhere_iff.1 hbound),
        if_neg (mt countLineTaken_iff.1 htaken), if_pos (timerBusy_iff.2 hbusy)]
    · have hchain : s.toDevice.timerDefineCheck t r = s.toDevice.chainCheck t (.parent p) := by
        rw [Device.timerDefineCheck, if_neg (mt parentFree_iff.1 hfree), if_neg (mt boundElsewhere_iff.1 hbound),
          if_neg (mt countLineTaken_iff.1 htaken), if_neg (mt timerBusy_iff.1 hbusy), hsrc]
      exact ⟨fun hloop => htake .chainLoop (by decide) (hchain.trans (chainCheck_loop (inSubtree_of_parents hloop))),
        fun hloop hdeep => htake .chainDepth (by decide) (hchain.trans (chainCheck_depth hloop hdeep))⟩
  · intro s tag id hready refused
    refine ⟨fun hid q hq => ?_, fun t hid => ?_⟩
    · obtain ⟨act, hact⟩ := takeRequest_withTimer hq [id] s.toDevice
      exact exec_taken hready q tag (hact.trans (withTimer_badId hid _ _))
    · subst hid
      refine ⟨fun hfree q hq => ?_, fun r ht => ⟨fun hs => ?_, fun hk => ?_, fun hk hs => ?_, fun hs => ?_⟩⟩
      · obtain ⟨act, hact⟩ := takeRequest_withTimer hq [byte t] s.toDevice
        exact exec_taken hready q tag (hact.trans (withTimer_free hfree _))
      · exact exec_taken hready .timerStart tag (takeTimerStart_busy ht hs)
      · exact exec_taken hready .timerPause tag (takeTimerPause_absolute ht hk)
      · exact exec_taken hready .timerPause tag (takeTimerPause_notRunning ht hk hs)
      · exact exec_taken hready .timerResume tag (takeTimerResume_notPaused ht hs)

end Sys2Proof.Machine
end

section
/-! TIMER_START: the timer runs, or expires late within the request (R31, R32). -/

namespace Sys2Proof.Machine

/-! ### Beginning to run -/

theorem beginTimer_time {r : TimerRec} {sc : Scale} (hk : r.kind = .relative) (hs : r.source = .time sc) (t : Fin 24)
    (d : Device) :
    d.beginTimer t r = (d.setTimer t (some { r with state := .running, remaining := r.period })).insertEntry (.timer t)
      (d.elapsed + r.period * sc.ms) none := by
  unfold Device.beginTimer Device.scheduleStart TimerRec.interval
  rw [hk, hs]
  rfl

theorem beginTimer_absolute {r : TimerRec} {due : Nat} (hk : r.kind = .absolute due) (t : Fin 24) (d : Device) :
    d.beginTimer t r = (d.setTimer t (some { r with state := .running, remaining := r.period })).insertEntry (.timer t)
      (due - d.wallOffset) (some due) := by
  unfold Device.beginTimer Device.scheduleStart
  rw [hk]
  rfl

theorem beginTimer_counted {r : TimerRec} (hk : r.kind = .relative) (hs : ∀ sc, r.source ≠ .time sc) (t : Fin 24)
    (d : Device) : d.beginTimer t r = d.setTimer t (some { r with state := .running, remaining := r.period }) := by
  unfold Device.beginTimer Device.scheduleStart
  rcases counted_of_not_time hs with ⟨p, hp⟩ | ⟨n, e, hp⟩ <;> rw [hk, hp]

theorem takeTimerStart_idle {d : Device} {t : Fin 24} {r r' : TimerRec} (h : d.timers[t] = some r) (hs : r.state = .idle)
    {d' : Device} (hd : (d.beginTimer t r).drainPastDue = d') (hr : d'.timers[t] = some r') :
    takeTimerStart [byte t] d =
      (d', [0x00, byte t, timerStateCode (some r'.state)] ++ optInstant (d'.dueOf (.timer t))) := by
  rw [takeTimerStart, withTimer_defined h]
  simp only [hs, hd, timerReply_of_some hr]
  rfl

/-! ### A start whose due instant lies ahead -/

/-- With nothing past due, an insertion ahead of now makes no past-due hand-over (R13). -/
theorem drainPastDue_insertEntry_later {d : Device} (h : ∀ e ∈ d.deadlines, e.pastDue = false) {due : Int}
    (hlater : (d.elapsed : Int) < clipDue due) (o : Owner) (wall : Option Nat) :
    (d.insertEntry o due wall).drainPastDue = d.insertEntry o due wall := by
  refine Device.drainPastDue_none fun e he => ?_
  rcases mem_placeEntry.mp he with rfl | he
  · exact ((newEntry_recorded ..).1 hlater).2
  · exact h e (mem_removeOwner.mp he).1

/-- A start whose entry lies ahead of now: the timer runs and the reply reports the entry (R31). -/
theorem takeTimerStart_later {d : Device} {t : Fin 24} {r : TimerRec} (h : d.timers[t] = some r) (hs : r.state = .idle)
    (hsettled : d.settled) {due : Int} {wall : Option Nat} (hlater : (d.elapsed : Int) < clipDue due)
    (hbegin : d.beginTimer t r =
      (d.setTimer t (some { r with state := .running, remaining := r.period })).insertEntry (.timer t) due wall) :
    takeTimerStart [byte t] d =
      ((d.setTimer t (some { r with state := .running, remaining := r.period })).insertEntry (.timer t) due wall,
        [0x00, byte t, 0x02, 0x01] ++ beBytes 6 (clipDue due).toNat) := by
  have hdrain : (d.beginTimer t r).drainPastDue = d.beginTimer t r := by
    rw [hbegin]
    exact drainPastDue_insertEntry_later
      (d := d.setTimer t (some { r with state := .running, remaining := r.period })) hsettled.1 hlater _ _
  have hrun : (d.beginTimer t r).timers[t] = some { r with state := .running, remaining := r.period } := by
    rw [hbegin]
    exact setTimer_timers_self t _ d
  have htake := takeTimerStart_idle h hs hdrain hrun
  rw [hbegin, dueOf_insertEntry_later (by exact hlater)] at htake
  exact htake

/-! ### A start whose due instant has passed -/

/-- The first past-due entry of a list that has none but the new one. -/
theorem find_pastDue_placeEntry {e : Entry} {l : List Entry} (he : e.pastDue = true) (hl : ∀ f ∈ l, f.pastDue = false) :
    (placeEntry e l).find? (fun f => f.pastDue) = some e := by
  induction l with
  | nil => simp [placeEntry, he]
  | cons f l ih =>
    unfold placeEntry
    split
    · simp [he]
    · rw [List.find?_cons_of_neg (by simp [hl f])]
      exact ih fun g hg => hl g (by simp [hg])

/-- An owner's entry placed and removed again leaves the rest of the list. -/
theorem removeOwner_placeEntry (e : Entry) (l : List Entry) :
    removeOwner e.owner (placeEntry e l) = removeOwner e.owner l := by
  induction l with
  | nil => simp [placeEntry, removeOwner]
  | cons f l ih =>
    unfold placeEntry
    split
    · simp [removeOwner]
    · simp only [removeOwner, List.filter_cons] at ih ⊢
      rw [ih]

/-- A hand-over of an owner just inserted leaves the list without that owner. -/
theorem takeOwner_insertEntry (o : Owner) (due : Int) (wall : Option Nat) (d : Device) :
    (d.insertEntry o due wall).takeOwner o = d.takeOwner o := by
  have hplace := removeOwner_placeEntry (d.newEntry (removeOwner o d.deadlines) o due wall) (removeOwner o d.deadlines)
  have htwice : removeOwner o (removeOwner o d.deadlines) = removeOwner o d.deadlines := by simp [removeOwner]
  rw [Device.newEntry_owner, htwice] at hplace
  exact congrArg (fun l => { d with deadlines := l, handed := o :: d.handed }) hplace

/-- The actions of an expiry touch no timer's entry. -/
theorem actions_entryOf_timer (t : Fin 24) (r : TimerRec) (fires : Nat) (late : Bool) (missed : Nat) (d : Device)
    (u : Fin 24) : (d.actions t r fires late missed).entryOf (.timer u) = d.entryOf (.timer u) := by
  have hpulse (n : Fin 8) (v : Vector LineRec 8) (due : Int) :
      (({ d with lines := v } : Device).insertEntry (.pulse n) due none).entryOf (.timer u) = d.entryOf (.timer u) :=
    Device.entryOf_insertEntry_of_ne (by simp) _ _ _
  unfold Device.actions
  cases r.output with
  | none => cases r.notice <;> rfl
  | some a =>
    cases he : a.effect with
    | pulse width =>
      simp only [he]
      cases r.notice with
      | none => exact hpulse a.line _ _
      | some tag => exact hpulse a.line _ _
    | _ =>
      simp only [he]
      cases r.notice <;> rfl

/-- A timer without children has none after a write of its own record that keeps the source. -/
theorem childless_of_timers {d d' : Device} {t : Fin 24} {r r' : TimerRec} (ht : d.timers[t] = some r)
    (hd : d'.timers = d.timers.set t (some r')) (hs : r'.source = r.source) (hc : d.Childless t) : d'.Childless t := by
  intro x rx hx
  rw [hd, getElem_set_fin] at hx
  split at hx
  · obtain rfl := Option.some.inj hx
    exact hs ▸ hc t r ht
  · exact hc x rx hx

/-- A past-due hand-over of an ABSOLUTE ONCE timer that triggers and counts into none (R13, R44). -/
theorem expireTimer_takeOwner_once {d : Device} {t : Fin 24} {r : TimerRec} {w : Nat} (ht : d.timers[t] = some r)
    (hk : r.kind = .absolute w) (hm : r.mode = .once) (htr : r.trigger = none) (hc : d.Childless t) (due : Int) :
    (d.takeOwner (.timer t)).expireTimer t due true = d.expiredLate t r := by
  have hstages : (d.takeOwner (.timer t)).expiryStages t r due true = d.expiredLate t r := by
    have hcontinue : (d.takeOwner (.timer t)).continueTimer t (r.counted true) due =
        (d.takeOwner (.timer t)).finishTimer t (r.counted true) := by
      simp only [Device.continueTimer, TimerRec.counted, hm]
    have hmissed : (d.takeOwner (.timer t)).missedCount r = 0 := by simp only [Device.missedCount, hm]
    rw [expiryStages_pastDue hk htr, expiredLate_once hm, hcontinue, hmissed]
    rfl
  obtain ⟨r', ht', hs'⟩ := expiredLate_timers t r d
  have hchildless := childless_of_timers ht ht' hs' hc
  unfold Device.expireTimer expire
  rw [Device.takeOwner_timers, ht]
  dsimp only
  rw [hstages]
  exact List.foldl_fixed' (fun c => offerCount_childless hchildless _ c) _

/-- A late start within a settled list: the timer's late expiry and no other hand-over (R13, R32). -/
theorem drainPastDue_late_once {d : Device} {t : Fin 24} {r : TimerRec} {due : Nat} (hsettled : d.settled)
    (ht : d.timers[t] = some r) (hk : r.kind = .absolute due) (hm : r.mode = .once) (htr : r.trigger = none)
    (hc : d.Childless t) (hdue : (due : Int) - d.wallOffset ≤ d.elapsed) (hhanded : .timer t ∉ d.handed) :
    (d.insertEntry (.timer t) (due - d.wallOffset) (some due)).drainPastDue = d.expiredLate t r := by
  have hnew : (d.newEntry (removeOwner (.timer t) d.deadlines) (.timer t) (due - d.wallOffset) (some due)).pastDue = true :=
    ((newEntry_recorded ..).2.1 ((min_le_left _ _).trans hdue) hhanded).2
  have hfind := find_pastDue_placeEntry (l := removeOwner (.timer t) d.deadlines) hnew fun f hf =>
    hsettled.1 f (mem_removeOwner.mp hf).1
  have hnone : d.deadlines.filter Entry.pastDue = [] := List.filter_eq_nil_iff.2 fun e he => by simp [hsettled.1 e he]
  rw [Device.drainPastDue, drain_cons hfind (Device.newEntry_owner ..), takeOwner_insertEntry,
    expireTimer_takeOwner_once ht hk hm htr hc]
  refine drain_none ?_ 23
  rw [expiredLate_pastDue t r fun e he hp => ?_, hnone]
  · rfl
  · simp [hsettled.1 e he] at hp

/-- The late expiry of a ONCE timer with the record its start gave it: IDLE again, counted, and its actions taken. -/
theorem expiredLate_begun {r : TimerRec} (hm : r.mode = .once) (hs : r.state = .idle) (t : Fin 24) (d : Device) :
    (d.setTimer t (some { r with state := .running, remaining := r.period })).expiredLate t
        { r with state := .running, remaining := r.period } =
      ({ d with
        timers := d.timers.set t (some { r with
          remaining := r.period, fires := (r.fires + 1) % 4294967296, lateCount := min (r.lateCount + 1) 65535 })
        deadlines := d.deadlines.filter (fun e => e.owner ≠ .timer t)
        handed := .timer t :: d.handed } : Device).actions t r ((r.fires + 1) % 4294967296) true 0 := by
  obtain ⟨state, kind, mode, period, source, output, notice, trigger, remaining, fires, lateCount⟩ := r
  obtain rfl : mode = .once := hm
  obtain rfl : state = .idle := hs
  unfold Device.expiredLate
  simp only [Device.setTimer, Vector.set_set]
  rfl

/-- A late start, whole: the expiry within the request and the reply that reports the timer IDLE (R32). -/
theorem takeTimerStart_late {d : Device} {t : Fin 24} {r : TimerRec} {due : Nat} (hsettled : d.settled)
    (ht : d.timers[t] = some r) (hs : r.state = .idle) (hk : r.kind = .absolute due) (hm : r.mode = .once)
    (htr : r.trigger = none) (hc : d.Childless t) (hdue : (due : Int) - d.wallOffset ≤ d.elapsed)
    (hhanded : .timer t ∉ d.handed) :
    takeTimerStart [byte t] d =
      (({ d with
        timers := d.timers.set t (some { r with
          remaining := r.period, fires := (r.fires + 1) % 4294967296, lateCount := min (r.lateCount + 1) 65535 })
        deadlines := d.deadlines.filter (fun e => e.owner ≠ .timer t)
        handed := .timer t :: d.handed } : Device).actions t r ((r.fires + 1) % 4294967296) true 0,
        [0x00, byte t, 0x01, 0x00, 0, 0, 0, 0, 0, 0]) := by
  have hc' : (d.setTimer t (some { r with state := .running, remaining := r.period })).Childless t :=
    childless_of_timers ht rfl rfl hc
  have hdrain := drainPastDue_late_once (d := d.setTimer t (some { r with state := .running, remaining := r.period }))
    hsettled (setTimer_timers_self t _ d) hk hm htr hc' hdue hhanded
  rw [expiredLate_begun hm hs, Device.setTimer_wallOffset, ← beginTimer_absolute hk] at hdrain
  have htake := takeTimerStart_idle ht hs hdrain (by rw [actions_timers]; exact setTimer_timers_self t _ d)
  rw [dueOf_none, optInstant_none] at htake
  · have hcode : timerStateCode (some r.state) = 0x01 := congrArg (fun st => timerStateCode (some st)) hs
    dsimp only at htake
    rw [hcode] at htake
    exact htake
  · rw [actions_entryOf_timer, ← removeOwner_eq_filter]
    exact find_removeOwner_self (.timer t) d.deadlines

/-- Settles O19: a due instant ahead of now makes the entry and no hand-over, one that has passed makes the entry past
due, and the request hands it over. -/
theorem timerStartRunsOrExpiresLate : Obligations.TimerStartRunsOrExpiresLate := by
  refine ⟨?_, ?_⟩
  · intro s tag t r hready hsettled hnow ht hs d
    refine ⟨fun sc hk hsrc hpos => ?_, fun due hk hdue => ?_, fun hk hsrc hentry => ?_⟩
    · have hlater := lt_clipDue_add (Nat.mul_pos hpos sc.ms_pos) hnow
      have htake := takeTimerStart_later ht hs hsettled hlater (beginTimer_time hk hsrc t s.toDevice)
      rw [clipDue_natCast, Int.toNat_natCast] at htake
      exact exec_taken hready .timerStart tag htake
    · have hlater : (s.elapsed : Int) < clipDue (due - s.wallOffset) := by
        simp only [clipDue, Config.maxElapsed]
        omega
      exact exec_taken hready .timerStart tag
        (takeTimerStart_later ht hs hsettled hlater (beginTimer_absolute hk t s.toDevice))
    · have hbegin := beginTimer_counted hk hsrc t s.toDevice
      have hdrain : (s.toDevice.beginTimer t r).drainPastDue = d := by
        rw [hbegin]
        exact Device.drainPastDue_none hsettled.1
      have htake := takeTimerStart_idle ht hs hdrain (setTimer_timers_self t _ _)
      rw [dueOf_none (by exact hentry), optInstant_none] at htake
      exact exec_taken hready .timerStart tag htake
  · intro s tag t r due hready hsettled _ ht hs hk hm htr hc hdue hhanded r' d
    exact exec_taken hready .timerStart tag (takeTimerStart_late hsettled ht hs hk hm htr hc hdue hhanded)

end Sys2Proof.Machine
end

section
/-! What a delivered edge does, by the role of its line (R142, R144 to R146). -/

namespace Sys2Proof.Machine

theorem qualifies_iff {e : Edge} {level : Level} :
    e.qualifies level = true ↔ (e = .rise ∧ level = .high) ∨ (e = .fall ∧ level = .low) ∨ e = .both := by
  cases e <;> cases level <;> decide

/-! ### Triggers -/

theorem deliverEdge_start {e : Edge} {level : Level} (h : e.qualifies level = true) (t : Fin 24) (d : Device) :
    d.deliverEdge (.trigger t e .start) level = d.triggerTimer t := if_pos h

theorem deliverEdge_stop {e : Edge} {level : Level} (h : e.qualifies level = true) (t : Fin 24) (d : Device) :
    d.deliverEdge (.trigger t e .stop) level = d.stopEdge t := if_pos h

theorem deliverEdge_trigger_unqualified {e : Edge} {level : Level} (h : ¬e.qualifies level = true) (t : Fin 24)
    (act : TriggerAct) (d : Device) : d.deliverEdge (.trigger t e act) level = d := by
  cases act <;> exact if_neg h

theorem triggerTimer_free {d : Device} {t : Fin 24} (h : d.timers[t] = none) : d.triggerTimer t = d := by
  rw [Device.triggerTimer, h]

theorem triggerTimer_paused {d : Device} {t : Fin 24} {r : TimerRec} (h : d.timers[t] = some r) (hs : r.state = .paused) :
    d.triggerTimer t = d := by
  simp only [Device.triggerTimer, h, hs]

theorem triggerTimer_begins {d : Device} {t : Fin 24} {r : TimerRec} (h : d.timers[t] = some r)
    (hs : r.state = .idle ∨ r.state = .running) : d.triggerTimer t = d.beginTimer t r := by
  rcases hs with hs | hs <;> simp only [Device.triggerTimer, h, hs]

theorem stopEdge_free {d : Device} {t : Fin 24} (h : d.timers[t] = none) : d.stopEdge t = d := by
  rw [Device.stopEdge, h]

theorem stopEdge_idle {d : Device} {t : Fin 24} {r : TimerRec} (h : d.timers[t] = some r) (hs : r.state = .idle) :
    d.stopEdge t = d := by
  simp only [Device.stopEdge, h, hs]

theorem stopEdge_busy {d : Device} {t : Fin 24} {r : TimerRec} (h : d.timers[t] = some r) (hs : r.state ≠ .idle) :
    d.stopEdge t = d.stopTimer t r := by
  simp only [Device.stopEdge, h]
  cases hst : r.state with
  | idle => exact absurd hst hs
  | running => rfl
  | paused => rfl

/-- A TRIGGER edge of a FREE timer acts on nothing. -/
theorem deliverEdge_trigger_free {d : Device} {t : Fin 24} (h : d.timers[t] = none) (e : Edge) (act : TriggerAct)
    (level : Level) : d.deliverEdge (.trigger t e act) level = d := by
  by_cases hq : e.qualifies level = true
  · cases act with
    | start => rw [deliverEdge_start hq, triggerTimer_free h]
    | stop => rw [deliverEdge_stop hq, stopEdge_free h]
  · exact deliverEdge_trigger_unqualified hq t act d

/-! ### Counts -/

theorem countEdge_nothing {d : Device} {t : Fin 24} {r : TimerRec} {n : Fin 8} {e : Edge} {level : Level}
    (h : d.timers[t] = some r) (hsrc : r.source = .input n e) (hnot : ¬e.qualifies level = true ∨ r.state ≠ .running) :
    d.countEdge t level = d := by
  simp only [Device.countEdge, h, hsrc]
  cases hst : r.state with
  | idle => rfl
  | paused => rfl
  | running => exact if_neg (hnot.resolve_right (absurd hst))

theorem countEdge_counts {d : Device} {t : Fin 24} {r : TimerRec} {n : Fin 8} {e : Edge} {level : Level}
    (h : d.timers[t] = some r) (hsrc : r.source = .input n e) (hq : e.qualifies level = true) (hs : r.state = .running) :
    d.countEdge t level = d.takeCount (fun d => d.expireTimer t d.elapsed false) t r := by
  simp only [Device.countEdge, h, hsrc, hs, hq, if_true]

/-- Stages 1 to 5 of the expiry of a RELATIVE timer that triggers none: it is never late (R46), goes on and acts. -/
theorem expiryStages_relative {t : Fin 24} {r : TimerRec} (hk : r.kind = .relative) (htr : r.trigger = none) (due : Int)
    (d : Device) :
    d.expiryStages t r due false =
      (d.continueTimer t (r.counted false) due).actions t r ((r.fires + 1) % 4294967296) false 0 := by
  have hlate : d.isLate r false = false := by simp only [Device.isLate, hk]
  have hmissed : d.missedCount r = 0 := by
    cases hm : r.mode <;> simp only [Device.missedCount, hm, hk]
  have htrigger : ∀ d : Device, d.triggerStage (r.counted false) = d := fun d => by
    simp [Device.triggerStage, TimerRec.counted, htr]
  unfold Device.expiryStages
  dsimp only
  rw [hlate, hmissed, htrigger, stages_eq_actions]
  rfl

/-- A counted RELATIVE timer after its expiry: a ONCE timer IDLE, a REPEAT timer on with its period (R47, R49). -/
theorem continueTimer_input {r : TimerRec} {n : Fin 8} {e : Edge} (hk : r.kind = .relative) (hsrc : r.source = .input n e)
    (t : Fin 24) (due : Int) (d : Device) :
    d.continueTimer t r due =
      d.setTimer t (some { r with state := if r.mode = .once then .idle else r.state, remaining := r.period }) := by
  cases hm : r.mode with
  | once => simp only [Device.continueTimer, hm, Device.finishTimer, if_true]
  | repeating => simp only [Device.continueTimer, hm, hk, hsrc, reduceCtorEq, if_false]

/-- The expiry of a RELATIVE timer counting an input line, which triggers and counts into none. -/
theorem expireTimer_input {d : Device} {t : Fin 24} {r : TimerRec} {n : Fin 8} {e : Edge} (ht : d.timers[t] = some r)
    (hk : r.kind = .relative) (hsrc : r.source = .input n e) (htr : r.trigger = none) (hc : d.Childless t) (due : Int) :
    d.expireTimer t due false =
      (d.setTimer t (some { r with
        fires := (r.fires + 1) % 4294967296, state := if r.mode = .once then .idle else r.state
        remaining := r.period })).actions t r ((r.fires + 1) % 4294967296) false 0 := by
  have hstages := expiryStages_relative hk htr due d (t := t)
  rw [continueTimer_input (r := r.counted false) hk hsrc] at hstages
  have hchildless : (d.expiryStages t r due false).Childless t := by
    rw [hstages]
    exact childless_of_timers ht (actions_timers ..) rfl hc
  unfold Device.expireTimer expire
  rw [ht]
  dsimp only
  rw [List.foldl_fixed' fun c => offerCount_childless hchildless _ c]
  exact hstages

theorem takeCount_more {r : TimerRec} (h : 2 ≤ r.remaining) (f : Device → Device) (t : Fin 24) (d : Device) :
    d.takeCount f t r = d.setTimer t (some { r with remaining := r.remaining - 1 }) :=
  if_neg (by omega)

theorem takeCount_last {r : TimerRec} (h : r.remaining = 1) (f : Device → Device) (t : Fin 24) (d : Device) :
    d.takeCount f t r = f (d.setTimer t (some { r with remaining := r.remaining - 1 })) :=
  if_pos (by omega)

/-- The last count of a RELATIVE timer counting an input line, which triggers and counts into none (R49, R61). -/
theorem countEdge_last {d : Device} {t : Fin 24} {r : TimerRec} {n : Fin 8} {e : Edge} {level : Level}
    (ht : d.timers[t] = some r) (hsrc : r.source = .input n e) (hq : e.qualifies level = true) (hs : r.state = .running)
    (hlast : r.remaining = 1) (hk : r.kind = .relative) (htr : r.trigger = none) (hc : d.Childless t) :
    d.countEdge t level =
      (d.setTimer t (some { r with
        fires := (r.fires + 1) % 4294967296, state := if r.mode = .once then .idle else .running
        remaining := r.period })).actions t r ((r.fires + 1) % 4294967296) false 0 := by
  have hc' : (d.setTimer t (some { r with remaining := r.remaining - 1 })).Childless t :=
    childless_of_timers ht rfl rfl hc
  rw [countEdge_counts ht hsrc hq hs, takeCount_last hlast]
  refine (expireTimer_input (setTimer_timers_self t _ d) (by exact hk) (by exact hsrc) (by exact htr) hc' _).trans ?_
  dsimp only
  rw [hs]
  simp only [Device.setTimer, Vector.set_set]
  rfl

/-! ### Check-ins -/

section Checkin

variable {d : Device} {w : Fin 16} {x : WatchRec} {n : Fin 8} {active level : Level}

theorem isEarly_eq_false {now : Nat} (h : ∀ l, x.lastRenewal = some l → l + x.minInterval ≤ now) :
    x.isEarly now = false := by
  unfold WatchRec.isEarly
  cases hl : x.lastRenewal with
  | none => rfl
  | some l => exact decide_eq_false (Nat.not_lt.2 (h l hl))

theorem isEarly_eq_true {now l : Nat} (hl : x.lastRenewal = some l) (h : now < l + x.minInterval) :
    x.isEarly now = true := by
  rw [WatchRec.isEarly, hl]
  exact decide_eq_true h

/-- An edge to the active level prepares the check-in (R76). -/
theorem watchEdge_active (hx : d.watches[w] = some x) (hsrc : x.source = .line n active) :
    d.watchEdge w active = d.setWatch w (some { x with phase := .half }) := by
  simp only [Device.watchEdge, hx, hsrc, if_true]

theorem watchEdge_dormant (hx : d.watches[w] = some x) (hsrc : x.source = .line n active) (hl : level ≠ active)
    (hs : x.state = .dormant) : d.watchEdge w level = d.setWatch w (some { x with phase := .opened }) := by
  simp only [Device.watchEdge, hx, hsrc, if_neg hl, if_pos hs]

theorem watchEdge_renews (hx : d.watches[w] = some x) (hsrc : x.source = .line n active) (hl : level ≠ active)
    (hs : x.state ≠ .dormant) (h : ∀ l, x.lastRenewal = some l → l + x.minInterval ≤ d.elapsed) :
    d.watchEdge w level = d.renew w { x with phase := .opened } := by
  simp only [Device.watchEdge, hx, hsrc, if_neg hl, if_neg hs, isEarly_eq_false h]
  exact if_neg Bool.false_ne_true

theorem watchEdge_early (hx : d.watches[w] = some x) (hsrc : x.source = .line n active) (hl : level ≠ active)
    (hs : x.state ≠ .dormant) {l : Nat} (hlast : x.lastRenewal = some l) (h : d.elapsed < l + x.minInterval) :
    d.watchEdge w level = d.earlyCandidate w { x with phase := .opened } := by
  simp only [Device.watchEdge, hx, hsrc, if_neg hl, if_neg hs, isEarly_eq_true hlast h, if_true]

/-- A renewal of a RUNNING watch (R86). -/
theorem renew_running (hs : x.state = .running) :
    d.renew w x = (d.setWatch w (some { x with
      lastRenewal := some d.elapsed, renewals := min (x.renewals + 1) 65535 })).insertEntry
        (.watch w) (d.elapsed + x.period) none := by
  simp only [Device.renew, WatchRec.renewed, hs]
  rfl

/-- An early candidate of a RUNNING watch whose line has left the active level: it enters WARN (R73, R87, R88). -/
theorem earlyCandidate_running (hs : x.state = .running) (hsrc : x.source = .line n active)
    (hl : d.inputs[n].filtered ≠ active) :
    d.earlyCandidate w x = ((d.setWatch w (some { x with
      phase := .opened, state := .warn, earlyFaults := min (x.earlyFaults + 1) 65535
      warns := min (x.warns + 1) 65535 })).insertEntry (.watch w) (d.elapsed + x.grace) none).notify
        (.watchWarn w .early) := by
  have hphase : d.sourcePhase (.line n active) = .opened := if_neg hl
  simp only [Device.earlyCandidate, hs, Device.enterWarn, hsrc, hphase]
  rfl

end Checkin

/-- Settles O44: by the role, each edge is the act of the timer or the watch that the role names. -/
theorem edgesActByRole : Obligations.EdgesActByRole := by
  intro d level t w n e r x active qualifies putTimer putWatch
  refine ⟨rfl, fun hq act => deliverEdge_trigger_unqualified (mt qualifies_iff.1 hq) t act d,
    fun hfree act => deliverEdge_trigger_free hfree e act level, ?_, ?_, ?_⟩
  · intro hq ht start stop begun
    have hstart : start = d.triggerTimer t := deliverEdge_start (qualifies_iff.2 hq) t d
    have hstop : stop = d.stopEdge t := deliverEdge_stop (qualifies_iff.2 hq) t d
    refine ⟨fun hs => hstart.trans (triggerTimer_paused ht hs), fun hs => ?_, fun hs => hstop.trans (stopEdge_idle ht hs),
      fun hs => hstop.trans ((stopEdge_busy ht hs).trans (stopTimer_eq t r d))⟩
    have hbegin := hstart.trans (triggerTimer_begins ht hs)
    exact ⟨fun sc hk hsrc => hbegin.trans (beginTimer_time hk hsrc t d),
      fun due hk => hbegin.trans (beginTimer_absolute hk t d),
      fun hk hsrc => hbegin.trans (beginTimer_counted hk hsrc t d)⟩
  · intro ht hsrc
    refine ⟨fun hnot => countEdge_nothing ht hsrc (hnot.imp_left (mt qualifies_iff.1)), fun hq hs hmore => ?_,
      fun hq hs hlast hk htr hc => countEdge_last ht hsrc (qualifies_iff.2 hq) hs hlast hk htr hc⟩
    exact (countEdge_counts ht hsrc (qualifies_iff.2 hq) hs).trans (takeCount_more hmore _ t d)
  · intro hx hsrc
    refine ⟨fun hl => ?_, fun hl hs => watchEdge_dormant hx hsrc hl hs, fun hl hs h => ?_,
      fun l hl hs hlast h hlevel => ?_, fun hl hs => ⟨fun h => watchEdge_renews hx hsrc hl hs h,
      fun l hlast h => watchEdge_early hx hsrc hl hs hlast h⟩⟩
    · subst hl
      exact watchEdge_active hx hsrc
    · exact (watchEdge_renews hx hsrc hl (by simp [hs]) h).trans (renew_running (by exact hs))
    · exact (watchEdge_early hx hsrc hl (by simp [hs]) hlast h).trans
        (earlyCandidate_running (by exact hs) (by exact hsrc) (hlevel ▸ hl))

end Sys2Proof.Machine
end

section
/-! The expiry of a timer without children (R43 to R57): its five stages, and the late expiry that a trigger can lead
to. -/

namespace Sys2Proof.Machine

/-! ### The hand-over -/

/-- TIMER_EXPIRY hands over a due head that is a timer's: its expiry, the past-due hand-overs, then the link port. -/
theorem exec_timerExpiry {s : State} {e : Entry} {t : Fin 24} (hm : s.mode = .running)
    (he : s.toDevice.headDue = some e) (ho : e.owner = .timer t) :
    exec .timerExpiry s = .next (s.become
      (((s.toDevice.takeOwner (.timer t)).expireTimer t e.due false).drainPastDue.pump)) := by
  have hexpiry : s.toDevice.expiryOf Entry.ofTimer = s.toDevice.handOver e := by
    simp [Device.expiryOf, he, Entry.ofTimer, ho]
  have hhand : s.toDevice.handOver e =
      ((s.toDevice.takeOwner (.timer t)).expireTimer t e.due false).drainPastDue.pump := by
    simp only [Device.handOver, Device.ownerWork, ho]
  show whileRunning (Device.expiryOf Entry.ofTimer) s = _
  rw [whileRunning_running hm, hexpiry, hhand]

/-! ### Who counts whose expiries -/

theorem childless_iff {d : Device} {t : Fin 24} : d.Childless t ↔ ∀ x, d.parentOf x ≠ some t := by
  have hlink (src : TimerSource) : src.parentLink = some t ↔ src = .parent t := by
    cases src <;> simp [TimerSource.parentLink]
  refine forall_congr' fun x => ?_
  rw [parentOf_eq]
  cases d.timers[x] <;> simp [hlink]

theorem TimerWorks.parentOf {d d' : Device} (h : TimerWorks d d') (x : Fin 24) : d'.parentOf x = d.parentOf x := by
  induction h with
  | refl => rfl
  | tail _ h ih => exact (h.sameChains.parent x).trans ih

theorem childless_congr {d d' : Device} (h : d'.timers = d.timers) {t : Fin 24} (hc : d.Childless t) :
    d'.Childless t := by
  rw [Device.Childless, h]
  exact hc

/-- The work of an expiry gives no timer a child (R22). -/
theorem TimerWorks.childless {d d' : Device} (h : TimerWorks d d') {t : Fin 24} (hc : d.Childless t) :
    d'.Childless t :=
  childless_iff.2 fun x => by rw [h.parentOf]; exact childless_iff.1 hc x

/-- A timer without children has no sixth stage (R44, R59). -/
theorem expire_childless {d : Device} {t : Fin 24} {r : TimerRec} (ht : d.timers[t] = some r) (hc : d.Childless t)
    (fuel : Nat) (due : Int) (pastDue : Bool) :
    expire (fuel + 1) t due pastDue d = d.expiryStages t r due pastDue := by
  have hchildless := (expiryStages_works due pastDue ht).childless hc
  rw [expire, ht]
  exact List.foldl_fixed' (fun c => offerCount_childless hchildless _ c) _

/-! ### Entries made past due -/

/-- No entry of the list is past due (R13). -/
def Device.onTime (d : Device) : Prop := d.deadlines.filter Entry.pastDue = []

theorem onTime_iff {d : Device} : d.onTime ↔ ∀ e ∈ d.deadlines, e.pastDue = false := by
  simp [Device.onTime]

theorem Device.onTime.drainPastDue {d : Device} (h : d.onTime) : d.drainPastDue = d := drain_none h 24

theorem onTime_takeOwner {d : Device} (h : d.onTime) (o : Owner) : (d.takeOwner o).onTime :=
  onTime_iff.2 fun e he => onTime_iff.1 h e (removeOwner_subset o _ e he)

/-- An insertion makes no entry past due but that of an absolute timer not ahead and not handed over (R13, R14). -/
theorem onTime_insertEntry {d : Device} (h : d.onTime) {o : Owner} {due : Int} {wall : Option Nat}
    (hnew : wall = none ∨ o ∈ d.handed ∨ (d.elapsed : Int) < clipDue due) : (d.insertEntry o due wall).onTime := by
  refine onTime_iff.2 fun e he => ?_
  rcases mem_placeEntry.mp he with rfl | he
  · by_contra hc
    obtain ⟨hwall, hhanded⟩ := newEntry_pastDue (by simpa using hc)
    rcases hnew with rfl | hnew | hnew
    · simp at hwall
    · exact hhanded hnew
    · exact hc ((newEntry_recorded ..).1 hnew).2
  · exact onTime_iff.1 h e (mem_removeOwner.mp he).1

theorem onTime_actions {d : Device} (h : d.onTime) (t : Fin 24) (r : TimerRec) (fires : Nat) (late : Bool)
    (missed : Nat) : (d.actions t r fires late missed).onTime := by
  have hnone : ∀ e ∈ d.deadlines, e.pastDue = true → ∃ u, e.owner = .timer u := fun e he hp => by
    simp [onTime_iff.1 h e he] at hp
  exact (actions_pastDue t r fires late missed hnone).trans h

/-- The continuation of a timer handed over at this instant makes no entry past due (R14, R48 to R51). -/
theorem onTime_continueTimer {d : Device} (h : d.onTime) {t : Fin 24} (hh : .timer t ∈ d.handed) (r : TimerRec)
    (due : Int) : (d.continueTimer t r due).onTime := by
  have hinsert (x : TimerRec) (next : Int) (wall : Option Nat) :
      ((d.setTimer t (some x)).insertEntry (.timer t) next wall).onTime :=
    onTime_insertEntry (d := d.setTimer t (some x)) h (.inr (.inl hh))
  unfold Device.continueTimer Device.finishTimer
  split
  · exact h
  · split
    · dsimp only
      split
      · exact h
      · exact hinsert _ _ _
    · exact hinsert _ _ _
    · exact h
    · exact h

/-! ### Stages 1 to 5 -/

theorem actions_elapsed (t : Fin 24) (r : TimerRec) (fires : Nat) (late : Bool) (missed : Nat) (d : Device) :
    (d.actions t r fires late missed).elapsed = d.elapsed := by
  unfold Device.actions
  cases r.output with
  | none => cases r.notice <;> rfl
  | some a => cases r.notice <;> cases he : a.effect <;> simp only [he] <;> rfl

/-- The continuation changes the timer's own record alone, and keeps its source (R47 to R51). -/
theorem continueTimer_timers (t : Fin 24) (r : TimerRec) (due : Int) (d : Device) :
    ∃ r', (d.continueTimer t r due).timers = d.timers.set t (some r') ∧ r'.source = r.source := by
  unfold Device.continueTimer Device.finishTimer
  split
  · exact ⟨_, rfl, rfl⟩
  · split
    · dsimp only
      split
      · exact ⟨_, rfl, rfl⟩
      · exact ⟨_, rfl, rfl⟩
    · exact ⟨_, rfl, rfl⟩
    · exact ⟨_, rfl, rfl⟩
    · exact ⟨_, rfl, rfl⟩

/-- Stages 1 to 5: the counts and the continuation, the actions, the trigger (R44). -/
theorem expiryStages_eq (t : Fin 24) (r : TimerRec) (due : Int) (pastDue : Bool) (d : Device) :
    d.expiryStages t r due pastDue =
      ((d.continueTimer t (r.counted (d.isLate r pastDue)) due).actions t r ((r.fires + 1) % 4294967296)
        (d.isLate r pastDue) (min (d.missedCount r) 65535)).triggerStage r := by
  unfold Device.expiryStages
  dsimp only
  rw [stages_eq_actions]
  rfl

/-! ### The trigger -/

/-- A past-due entry of an ABSOLUTE timer that triggers and counts into none, the only one of the list, leads to that
timer's late expiry and to no other hand-over (R13). -/
theorem drainPastDue_late {d : Device} {u : Fin 24} {x : TimerRec} {due : Nat} {sx : Scale} (h : d.onTime)
    (hu : d.timers[u] = some x) (hk : x.kind = .absolute due) (hsrc : x.source = .time sx) (htr : x.trigger = none)
    (hc : d.Childless u) (hdue : (due : Int) - d.wallOffset ≤ d.elapsed) (hh : .timer u ∉ d.handed) :
    (d.insertEntry (.timer u) (due - d.wallOffset) (some due)).drainPastDue = d.expiredLate u x := by
  have hnew : (d.newEntry (removeOwner (.timer u) d.deadlines) (.timer u) (due - d.wallOffset) (some due)).pastDue = true :=
    ((newEntry_recorded ..).2.1 ((min_le_left _ _).trans hdue) hh).2
  have hfind := find_pastDue_placeEntry (l := removeOwner (.timer u) d.deadlines) hnew fun f hf =>
    onTime_iff.1 h f (mem_removeOwner.mp hf).1
  have hexpired : (d.expiredLate u x).onTime := by
    rw [Device.onTime, expiredLate_pastDue u x fun e he hp => ?_, h]
    · rfl
    · simp [onTime_iff.1 h e he] at hp
  rw [Device.drainPastDue, drain_cons hfind (Device.newEntry_owner ..), takeOwner_insertEntry,
    expireTimer_takeOwner_eq hu hk hsrc htr hc]
  exact drain_none hexpired 23

/-- A late expiry writes the timer's record whole. -/
theorem expiredLate_setTimer (u : Fin 24) (x : TimerRec) (r : Option TimerRec) (d : Device) :
    (d.setTimer u r).expiredLate u x = d.expiredLate u x := by
  unfold Device.expiredLate
  simp only [Device.setTimer, Vector.set_set]

/-- A trigger on an IDLE or RUNNING target begins it, by its kind and source (R55, R56). -/
theorem triggered_begins {d : Device} {u : Fin 24} {x : TimerRec} (hu : d.timers[u] = some x)
    (hs : x.state = .idle ∨ x.state = .running) : d.triggered u = d.beginTimer u x := by
  obtain ⟨state, kind, mode, period, source, output, notice, trigger, remaining, fires, lateCount⟩ := x
  simp only [Device.triggered, hu]
  rcases hs with rfl | rfl <;> cases kind with
  | absolute due => rfl
  | relative => cases source <;> rfl

theorem triggeredWhole_free {d : Device} {u : Fin 24} (hu : d.timers[u] = none) : d.triggeredWhole u = d := by
  simp only [Device.triggeredWhole, hu]

theorem triggeredWhole_paused {d : Device} {u : Fin 24} {x : TimerRec} (hu : d.timers[u] = some x)
    (hs : x.state = .paused) : d.triggeredWhole u = d := by
  simp only [Device.triggeredWhole, hu, hs]

theorem triggeredWhole_relative {d : Device} {u : Fin 24} {x : TimerRec} (hu : d.timers[u] = some x)
    (hs : x.state = .idle ∨ x.state = .running) (hk : x.kind = .relative) :
    d.triggeredWhole u = d.beginTimer u x := by
  rw [← triggered_begins hu hs]
  rcases hs with hs | hs <;> simp only [Device.triggeredWhole, hu, hs, hk]

theorem triggeredWhole_absolute {d : Device} {u : Fin 24} {x : TimerRec} {due : Nat} (hu : d.timers[u] = some x)
    (hs : x.state = .idle ∨ x.state = .running) (hk : x.kind = .absolute due) :
    d.triggeredWhole u =
      if (due : Int) - d.wallOffset ≤ d.elapsed ∧ .timer u ∉ d.handed then
        d.expiredLate u { x with state := .running, remaining := x.period }
      else d.beginTimer u x := by
  rw [← triggered_begins hu hs]
  rcases hs with hs | hs <;> simp only [Device.triggeredWhole, hu, hs, hk]

/-- An ABSOLUTE timer expires alone: it triggers none, and none counts its expiries. -/
def Device.AbsoluteAlone (d : Device) (u : Fin 24) : Prop :=
  ∀ (x : TimerRec) due, d.timers[u] = some x → x.kind = .absolute due →
    x.trigger = none ∧ (∃ sx, x.source = .time sx) ∧ d.Childless u

/-- A trigger that begins its target: an entry ahead stands, one not ahead leads to the target's late expiry, where the
target has not been handed over at this instant (R13, R14, R55 to R57). -/
theorem drainPastDue_beginTimer_absolute {d : Device} {u : Fin 24} {x : TimerRec} {due : Nat} (h : d.onTime)
    (hnow : d.elapsed < 281474976710655) (hu : d.timers[u] = some x) (hk : x.kind = .absolute due)
    (halone : d.AbsoluteAlone u) :
    (d.beginTimer u x).drainPastDue =
      if (due : Int) - d.wallOffset ≤ d.elapsed ∧ .timer u ∉ d.handed then
        d.expiredLate u { x with state := .running, remaining := x.period }
      else d.beginTimer u x := by
  obtain ⟨htr, ⟨sx, hsrc⟩, hc⟩ := halone x due hu hk
  rw [beginTimer_absolute hk]
  split
  · next hlate =>
    have hc' : (d.setTimer u (some { x with state := .running, remaining := x.period })).Childless u :=
      childless_of_timers hu rfl rfl hc
    rw [← expiredLate_setTimer u _ (some { x with state := .running, remaining := x.period }) d]
    exact drainPastDue_late (d := d.setTimer u (some { x with state := .running, remaining := x.period })) h
      (setTimer_timers_self u _ d) hk hsrc htr hc' hlate.1 hlate.2
  · next hahead =>
    refine Device.onTime.drainPastDue (onTime_insertEntry
      (d := d.setTimer u (some { x with state := .running, remaining := x.period })) h (.inr ?_))
    by_cases hh : .timer u ∈ d.handed
    · exact .inl hh
    · refine .inr ?_
      have hlater : (d.elapsed : Int) < due - d.wallOffset := not_le.1 fun hle => hahead ⟨hle, hh⟩
      simp only [clipDue, Config.maxElapsed, Device.setTimer_elapsed]
      omega

/-- A RELATIVE timer that begins makes no entry past due (R13). -/
theorem onTime_beginTimer_relative {d : Device} {x : TimerRec} (h : d.onTime) (hk : x.kind = .relative) (u : Fin 24) :
    (d.beginTimer u x).onTime := by
  by_cases hsrc : ∃ sc, x.source = .time sc
  · obtain ⟨sc, hsrc⟩ := hsrc
    rw [beginTimer_time hk hsrc]
    exact onTime_insertEntry (d := d.setTimer u (some { x with state := .running, remaining := x.period })) h (.inl rfl)
  · rw [beginTimer_counted hk (not_exists.1 hsrc)]
    exact h

/-- A trigger and the past-due hand-overs after it are the trigger with the late expiry it leads to (R55 to R57). -/
theorem drainPastDue_triggerTimer {d : Device} {u : Fin 24} (h : d.onTime) (hnow : d.elapsed < 281474976710655)
    (halone : d.AbsoluteAlone u) : (d.triggerTimer u).drainPastDue = d.triggeredWhole u := by
  cases hu : d.timers[u] with
  | none => rw [triggerTimer_free hu, triggeredWhole_free hu, h.drainPastDue]
  | some x =>
    have hbegun (hs : x.state = .idle ∨ x.state = .running) : (d.triggerTimer u).drainPastDue = d.triggeredWhole u := by
      rw [triggerTimer_begins hu hs]
      cases hk : x.kind with
      | relative => rw [triggeredWhole_relative hu hs hk, (onTime_beginTimer_relative h hk u).drainPastDue]
      | absolute due => rw [triggeredWhole_absolute hu hs hk, drainPastDue_beginTimer_absolute h hnow hu hk halone]
    cases hs : x.state with
    | paused => rw [triggerTimer_paused hu hs, triggeredWhole_paused hu hs, h.drainPastDue]
    | idle => exact hbegun (.inl hs)
    | running => exact hbegun (.inr hs)

/-! ### The whole expiry -/

/-- The actions of an expiry and the trigger with the late expiry it leads to (R44, R55 to R57). -/
def Device.actThenTrigger (t : Fin 24) (r : TimerRec) (late : Bool) (missed : Nat) (d : Device) : Device :=
  let acted := d.actions t r ((r.fires + 1) % 4294967296) late (min missed 65535)
  match r.trigger with
  | some u => acted.triggeredWhole u
  | none => acted

/-- The expiry of a handed-over timer without children, with the past-due hand-overs it leads to: its continuation, its
actions, its trigger (R43, R44). -/
theorem expireTimer_drainPastDue {d : Device} {t : Fin 24} {r : TimerRec} (h : d.onTime) (hh : .timer t ∈ d.handed)
    (ht : d.timers[t] = some r) (hc : d.Childless t)
    (htrigger : ∀ u, r.trigger = some u → u ≠ t ∧ d.elapsed < 281474976710655 ∧ d.AbsoluteAlone u) (due : Int) :
    (d.expireTimer t due false).drainPastDue =
      (d.continueTimer t (r.counted (d.isLate r false)) due).actThenTrigger t r (d.isLate r false)
        (d.missedCount r) := by
  set next := d.continueTimer t (r.counted (d.isLate r false)) due with hnext
  have hon : next.onTime := onTime_continueTimer h hh _ due
  have hworks : TimerWorks d next := continueTimer_works due ht rfl rfl
  rw [Device.expireTimer, expire_childless ht hc 23, expiryStages_eq, ← hnext]
  unfold Device.triggerStage Device.actThenTrigger
  set acted := next.actions t r ((r.fires + 1) % 4294967296) (d.isLate r false) (min (d.missedCount r) 65535)
  have hacted : acted.onTime := onTime_actions hon t r _ _ _
  cases htr : r.trigger with
  | none => exact hacted.drainPastDue
  | some u =>
    obtain ⟨hut, hnow, halone⟩ := htrigger u htr
    obtain ⟨r', htimers, -⟩ := continueTimer_timers t (r.counted (d.isLate r false)) due d
    have hu : acted.timers[u] = d.timers[u] := by
      rw [actions_timers, htimers, getElem_set_fin, if_neg hut]
    refine drainPastDue_triggerTimer hacted (by rw [actions_elapsed, hworks.sameBase.elapsed]; exact hnow) ?_
    intro x w hx hk
    obtain ⟨hxt, hsrc, hcu⟩ := halone x w (hu ▸ hx) hk
    exact ⟨hxt, hsrc, childless_congr (actions_timers ..) (hworks.childless hcu)⟩

/-! ### Continuation by mode and kind -/

theorem continueTimer_once {r : TimerRec} (hm : r.mode = .once) (t : Fin 24) (due : Int) (d : Device) :
    d.continueTimer t r due = d.setTimer t (some { r with state := .idle, remaining := r.period }) := by
  simp only [Device.continueTimer, hm, Device.finishTimer]

theorem continueTimer_relative {r : TimerRec} {sc : Scale} (hm : r.mode = .repeating) (hk : r.kind = .relative)
    (hsrc : r.source = .time sc) (t : Fin 24) (due : Int) (d : Device) :
    d.continueTimer t r due = (d.setTimer t (some r)).insertEntry (.timer t) (due + r.period * sc.ms) none := by
  simp only [Device.continueTimer, hm, hk, hsrc, TimerRec.interval, Nat.cast_mul]

theorem continueTimer_absolute {r : TimerRec} {sc : Scale} {old k next : Nat} (hm : r.mode = .repeating)
    (hk : r.kind = .absolute old) (hsrc : r.source = .time sc) {d : Device}
    (hsteps : gridSteps old r.interval d.wall = k + 1) (hnext : next = old + (k + 1) * (r.period * sc.ms)) (t : Fin 24)
    (due : Int) :
    d.continueTimer t r due =
      if 140737488355327 < next then d.setTimer t (some { r with state := .idle, remaining := r.period })
      else (d.setTimer t (some { r with kind := .absolute next })).insertEntry (.timer t) (next - d.wallOffset)
        (some next) := by
  have hinterval : r.interval = r.period * sc.ms := by simp only [TimerRec.interval, hsrc]
  rw [hnext, ← hinterval, ← hsteps]
  obtain ⟨state, kind, mode, period, source, output, notice, trigger, remaining, fires, lateCount⟩ := r
  obtain rfl : mode = .repeating := hm
  obtain rfl : kind = .absolute old := hk
  rfl

/-- The grid point is the first one later than wall time (R50). -/
theorem gridSteps_eq {due interval k : Nat} {w : Int} (h : (due + k * interval : Int) ≤ w)
    (h' : w < (due + (k + 1) * interval : Int)) : gridSteps due interval w = k + 1 := by
  obtain ⟨n, hn⟩ : ∃ n : Nat, w - due = n := Int.eq_ofNat_of_zero_le (by nlinarith)
  rw [gridSteps, hn, Int.toNat_natCast, Nat.div_eq_of_lt_le] <;> zify <;> linarith

theorem isLate_relative {r : TimerRec} (hk : r.kind = .relative) (d : Device) (pastDue : Bool) :
    d.isLate r pastDue = false := by
  simp only [Device.isLate, hk]

theorem isLate_absolute {r : TimerRec} {due : Nat} (hk : r.kind = .absolute due) (d : Device) :
    d.isLate r false = decide ((due : Int) < d.elapsed + d.wallOffset) := by
  simp only [Device.isLate, hk, Bool.false_or]
  rfl

theorem missedCount_relative {r : TimerRec} (hk : r.kind = .relative) (d : Device) : d.missedCount r = 0 := by
  cases hm : r.mode <;> simp only [Device.missedCount, hm, hk]

theorem missedCount_once {r : TimerRec} (hm : r.mode = .once) (d : Device) : d.missedCount r = 0 := by
  simp only [Device.missedCount, hm]

theorem missedCount_absolute {r : TimerRec} {due k : Nat} (hm : r.mode = .repeating) (hk : r.kind = .absolute due)
    {d : Device} (hsteps : gridSteps due r.interval d.wall = k + 1) : d.missedCount r = k := by
  simp only [Device.missedCount, hm, hk, hsteps, Nat.add_sub_cancel]

/-- Settles O23: a timer without children runs its stages and no more, and the past-due hand-overs after them are the
late expiry its trigger can lead to; the clauses are the continuation by mode and kind. -/
theorem timerExpiryRunsItsStages : Obligations.TimerExpiryRunsItsStages := by
  intro s e t r sc hm hsettled he ho ht hsrc hperiod hc htrigger taken fires finish
  have hexpiry : exec .timerExpiry s = .next (s.become ((taken.continueTimer t (r.counted (taken.isLate r false))
      e.due).actThenTrigger t r (taken.isLate r false) (taken.missedCount r)).pump) := by
    rw [exec_timerExpiry hm he ho, expireTimer_drainPastDue (onTime_takeOwner (onTime_iff.2 hsettled.1) _)
      (List.mem_cons_self ..) ht hc htrigger]
  refine ⟨fun hk hmode => ?_, fun hk hmode => ?_, fun due hk hmode hdue => ?_, ?_⟩
  · rw [hexpiry, isLate_relative hk, missedCount_relative hk, continueTimer_once (r := r.counted false) hmode]
    rfl
  · rw [hexpiry, isLate_relative hk, missedCount_relative hk, continueTimer_relative (r := r.counted false) hmode hk hsrc]
    rfl
  · have hontime : taken.isLate r false = false := by
      rw [isLate_absolute hk]
      exact decide_eq_false (by rw [← hdue]; exact lt_irrefl _)
    rw [hexpiry, hontime, missedCount_once hmode, continueTimer_once (r := r.counted false) hmode]
    rfl
  · intro due k hk hmode hdue hlow hhigh late counted next
    have hinterval : r.interval = r.period * sc.ms := by simp only [TimerRec.interval, hsrc]
    have hsteps : gridSteps due r.interval taken.wall = k + 1 := by
      rw [hinterval]
      exact gridSteps_eq (by push_cast; exact hlow) (by push_cast; exact hhigh)
    have hlate : taken.isLate r false = late := isLate_absolute hk taken
    rw [hexpiry, missedCount_absolute hmode hk hsteps, hlate,
      continueTimer_absolute (r := r.counted late) (next := next) hmode hk hsrc hsteps rfl]
    refine ⟨fun hnext => ?_, fun hnext => ?_⟩
    · rw [if_neg (Nat.not_lt.2 hnext)]
      rfl
    · rw [if_pos hnext]
      rfl

end Sys2Proof.Machine
end

section
/-! Chain counting (R46, R47, R49, R59, R60): what the counts of one expiry do to the children. -/

namespace Sys2Proof.Machine

/-! ### The timer table apart from the rest -/

/-- The device with other timer records. -/
def Device.withTimers (v : Vector (Option TimerRec) 24) (d : Device) : Device := { d with timers := v }

theorem setTimer_eq_withTimers (t : Fin 24) (r : Option TimerRec) (d : Device) :
    d.setTimer t r = d.withTimers (d.timers.set t r) := rfl

theorem setTimer_setTimer (t : Fin 24) (r r' : Option TimerRec) (d : Device) :
    (d.setTimer t r).setTimer t r' = d.setTimer t r' := by
  simp only [Device.setTimer, Vector.set_set]

theorem setTimer_timers_same (t : Fin 24) (d : Device) : d.setTimer t d.timers[t] = d := by
  simp only [Device.setTimer, Fin.getElem_fin, Vector.set_getElem_self]

/-- The actions of an expiry neither read nor write the timer table. -/
theorem actions_withTimers (t : Fin 24) (r : TimerRec) (fires : Nat) (late : Bool) (missed : Nat)
    (v : Vector (Option TimerRec) 24) (d : Device) :
    (d.withTimers v).actions t r fires late missed = (d.actions t r fires late missed).withTimers v := by
  unfold Device.actions
  cases r.output with
  | none => cases r.notice <;> rfl
  | some a => cases r.notice <;> cases he : a.effect <;> simp only [he] <;> rfl

theorem actions_none {r : TimerRec} (ho : r.output = none) (hn : r.notice = none) (t : Fin 24) (fires : Nat)
    (late : Bool) (missed : Nat) (d : Device) : d.actions t r fires late missed = d := by
  simp only [Device.actions, ho, hn]

/-! ### One count -/

/-- The timer counts the expiries of timer t now: it is a RUNNING child (R59). -/
def TimerRec.counts (t : Fin 24) (r : TimerRec) : Bool := r.source = .parent t ∧ r.state = .running

/-- The next expiry of timer t is the timer's last count (R59). -/
def TimerRec.atLast (t : Fin 24) (r : TimerRec) : Bool := r.counts t && r.remaining = 1

/-- The record after an expiry of timer t: a count less, or, at the last count, the record after the timer's own expiry
(R45, R47, R49, R59). -/
def TimerRec.offered (t : Fin 24) (r : TimerRec) : TimerRec :=
  if r.atLast t then
    { r with
      fires := (r.fires + 1) % 4294967296, state := if r.mode = .once then .idle else .running, remaining := r.period }
  else if r.counts t then { r with remaining := r.remaining - 1 } else r

/-- The actions of timer c's expiry, on time, by its record (R44, R46). -/
def Device.actsOnTime (c : Fin 24) (r : Option TimerRec) (d : Device) : Device :=
  r.elim d fun r => d.actions c r ((r.fires + 1) % 4294967296) false 0

theorem actsOnTime_withTimers (c : Fin 24) (r : Option TimerRec) (v : Vector (Option TimerRec) 24) (d : Device) :
    (d.withTimers v).actsOnTime c r = (d.actsOnTime c r).withTimers v := by
  cases r with
  | none => rfl
  | some r => exact actions_withTimers ..

theorem actsOnTime_timers (c : Fin 24) (r : Option TimerRec) (d : Device) : (d.actsOnTime c r).timers = d.timers := by
  cases r with
  | none => rfl
  | some r => exact actions_timers ..

/-- An expiry of timer t leaves timer c counting; or it is c's last count, and c is RELATIVE, triggers none and counts
into none. -/
def Device.CountsAlone (d : Device) (t c : Fin 24) : Prop :=
  ∀ r, d.timers[c] = some r → r.counts t = true →
    1 ≤ r.remaining ∧ (r.remaining = 1 → r.kind = .relative ∧ r.trigger = none ∧ d.Childless c)

/-- A counted RELATIVE timer after its expiry: a ONCE timer IDLE, a REPEAT timer on with its period (R47, R49). -/
theorem continueTimer_counted {r : TimerRec} (hk : r.kind = .relative) (hsrc : ∀ sc, r.source ≠ .time sc)
    (hs : r.state = .running) (t : Fin 24) (due : Int) (d : Device) :
    d.continueTimer t r due =
      d.setTimer t (some { r with state := if r.mode = .once then .idle else .running, remaining := r.period }) := by
  cases hm : r.mode with
  | once => simp only [continueTimer_once hm, hm, if_true]
  | repeating =>
    rcases counted_of_not_time hsrc with ⟨p, hp⟩ | ⟨n, e, hp⟩ <;>
      simp only [Device.continueTimer, hm, hk, hp, hs, reduceCtorEq, if_false]

/-- The expiry of a counted RELATIVE timer that triggers and counts into none (R46, R49). -/
theorem expire_counted {d : Device} {c : Fin 24} {r : TimerRec} (hr : d.timers[c] = some r) (hk : r.kind = .relative)
    (hsrc : ∀ sc, r.source ≠ .time sc) (hs : r.state = .running) (htr : r.trigger = none) (hc : d.Childless c)
    (fuel : Nat) (due : Int) :
    expire (fuel + 1) c due false d =
      (d.setTimer c (some { r with
        fires := (r.fires + 1) % 4294967296, state := if r.mode = .once then .idle else .running
        remaining := r.period })).actions c r ((r.fires + 1) % 4294967296) false 0 := by
  rw [expire_childless hr hc, expiryStages_relative hk htr, continueTimer_counted (r := r.counted false) hk hsrc hs]
  rfl

/-- The last count of a child that triggers and counts into none. -/
theorem expire_atLast {d : Device} {t c : Fin 24} {r : TimerRec} (hr : d.timers[c] = some r)
    (hlast : r.atLast t = true) (halone : d.CountsAlone t c) (fuel : Nat) (due : Int) :
    expire (fuel + 1) c due false (d.setTimer c (some { r with remaining := r.remaining - 1 })) =
      (d.setTimer c (some (r.offered t))).actions c r ((r.fires + 1) % 4294967296) false 0 := by
  obtain ⟨hcounts, hone⟩ : r.counts t = true ∧ r.remaining = 1 := by simpa [TimerRec.atLast] using hlast
  obtain ⟨hsrc, hs⟩ : r.source = .parent t ∧ r.state = .running := by simpa [TimerRec.counts] using hcounts
  obtain ⟨hk, htr, hc⟩ := (halone r hr hcounts).2 hone
  have hc' : (d.setTimer c (some { r with remaining := r.remaining - 1 })).Childless c :=
    childless_of_timers hr rfl rfl hc
  refine (expire_counted (r := { r with remaining := r.remaining - 1 }) (setTimer_timers_self c _ d) hk (by simp [hsrc])
    hs htr hc' fuel due).trans ?_
  rw [setTimer_setTimer, TimerRec.offered, if_pos hlast]
  rfl

/-- One count: the child's record moves on, and a child at its last count acts (R59). -/
theorem offerCount_eq {d : Device} {t c : Fin 24} (halone : d.CountsAlone t c) (fuel : Nat) :
    d.offerCount (fun d => expire (fuel + 1) c d.elapsed false d) t c =
      if (d.timers[c]).any (TimerRec.atLast t) then
        (d.setTimer c ((d.timers[c]).map (TimerRec.offered t))).actsOnTime c d.timers[c]
      else d.setTimer c ((d.timers[c]).map (TimerRec.offered t)) := by
  have hsame := setTimer_timers_same c d
  cases hr : d.timers[c] with
  | none =>
    rw [hr] at hsame
    simp only [Device.offerCount, hr, Option.map_none, Option.any_none, hsame]
    rfl
  | some r =>
    rw [hr] at hsame
    have hoffer : (r.childOf t ∧ r.state = .running) ↔ r.counts t = true := by
      simp [TimerRec.childOf, TimerRec.counts]
    simp only [Device.offerCount, hr, hoffer, Option.map_some, Option.any_some]
    by_cases hcounts : r.counts t = true
    · have hpos := (halone r hr hcounts).1
      by_cases hone : r.remaining = 1
      · have hlast : r.atLast t = true := by simp [TimerRec.atLast, hcounts, hone]
        rw [if_pos hcounts, if_pos hlast, takeCount_last hone]
        exact expire_atLast hr hlast halone fuel _
      · have hlast : ¬r.atLast t = true := by simp [TimerRec.atLast, hone]
        rw [if_pos hcounts, if_neg hlast, takeCount_more (by omega), TimerRec.offered, if_neg hlast, if_pos hcounts]
    · have hlast : ¬r.atLast t = true := by simp [TimerRec.atLast, hcounts]
      rw [if_neg hcounts, if_neg hlast, TimerRec.offered, if_neg hlast, if_neg hcounts, hsame]

/-! ### The counts of one expiry -/

/-- The table `w` with the timers of the list after their counts, from their records in `v`. -/
def offeredTable (t : Fin 24) (v : Vector (Option TimerRec) 24) (l : List (Fin 24)) (w : Vector (Option TimerRec) 24) :
    Vector (Option TimerRec) 24 :=
  Vector.ofFn fun x => if x ∈ l then (v[x]).map (TimerRec.offered t) else w[x]

theorem offeredTable_cons (t c : Fin 24) (v w : Vector (Option TimerRec) 24) (l : List (Fin 24)) :
    offeredTable t v l (w.set c ((v[c]).map (TimerRec.offered t))) = offeredTable t v (c :: l) w := by
  refine congrArg Vector.ofFn (funext fun x => ?_)
  rw [getElem_set_fin]
  by_cases hx : x = c
  · subst hx
    simp
  · simp [hx]

theorem offerCount_timers {d : Device} {t c : Fin 24} (halone : d.CountsAlone t c) (fuel : Nat) :
    (d.offerCount (fun d => expire (fuel + 1) c d.elapsed false d) t c).timers =
      d.timers.set c ((d.timers[c]).map (TimerRec.offered t)) := by
  rw [offerCount_eq halone]
  split
  · rw [actsOnTime_timers]
    rfl
  · rfl

/-- A count into another timer leaves what timer c's own count depends on. -/
theorem Device.CountsAlone.of_works {d d' : Device} {t c : Fin 24} (h : d.CountsAlone t c) (hd : TimerWorks d d')
    (hc : d'.timers[c] = d.timers[c]) : d'.CountsAlone t c := by
  intro r hr hcounts
  obtain ⟨hpos, hlast⟩ := h r (hc ▸ hr) hcounts
  refine ⟨hpos, fun hone => ?_⟩
  obtain ⟨hk, htr, hchildless⟩ := hlast hone
  exact ⟨hk, htr, hd.childless hchildless⟩

/-- The counts of one expiry, offered in the order of the list: every child's record moves on by itself, and those at
their last count act in that order (R60). -/
theorem foldl_offerCount (t : Fin 24) (fuel : Nat) (v : Vector (Option TimerRec) 24) {l : List (Fin 24)} (hl : l.Nodup)
    {d : Device} (hv : ∀ c ∈ l, d.timers[c] = v[c]) (halone : ∀ c ∈ l, d.CountsAlone t c) :
    l.foldl (fun d c => d.offerCount (fun d => expire (fuel + 1) c d.elapsed false d) t c) d =
      (l.filter fun c => (v[c]).any (TimerRec.atLast t)).foldl (fun d c => d.actsOnTime c v[c])
        (d.withTimers (offeredTable t v l d.timers)) := by
  induction l generalizing d with
  | nil =>
    have hsame : offeredTable t v [] d.timers = d.timers := by simp [offeredTable]
    rw [hsame]
    rfl
  | cons c l ih =>
    obtain ⟨hcl, hl⟩ := List.nodup_cons.1 hl
    have hvc : d.timers[c] = v[c] := hv c (by simp)
    have hone : d.CountsAlone t c := halone c (by simp)
    have htimers := offerCount_timers hone fuel
    have heq := offerCount_eq hone fuel
    have hworks : TimerWorks d (d.offerCount (fun d => expire (fuel + 1) c d.elapsed false d) t c) :=
      offerCount_works (fun d => expire_works ..) t c d
    rw [hvc] at htimers heq
    rw [List.foldl_cons, List.filter_cons]
    set d₁ := d.offerCount (fun d => expire (fuel + 1) c d.elapsed false d) t c
    have hkept (x : Fin 24) (hx : x ∈ l) : d₁.timers[x] = d.timers[x] := by
      rw [htimers, getElem_set_fin, if_neg (ne_of_mem_of_not_mem hx hcl)]
    rw [ih hl (fun x hx => (hkept x hx).trans (hv x (by simp [hx])))
      (fun x hx => Device.CountsAlone.of_works (halone x (by simp [hx])) hworks (hkept x hx)), htimers, offeredTable_cons, heq]
    split
    · rw [List.foldl_cons, setTimer_eq_withTimers, actsOnTime_withTimers, actsOnTime_withTimers]
      rfl
    · rfl

/-- The sixth stage of an expiry, in ascending order of id (R44, R60). -/
theorem expireTimer_eq {d : Device} {t : Fin 24} {r : TimerRec} (ht : d.timers[t] = some r) {d₁ : Device} (due : Int)
    (hstages : d.expiryStages t r due false = d₁) (halone : ∀ c, d₁.CountsAlone t c) :
    d.expireTimer t due false =
      ((List.finRange 24).filter fun c => (d₁.timers[c]).any (TimerRec.atLast t)).foldl
        (fun d c => d.actsOnTime c d₁.timers[c])
        (d₁.withTimers (d₁.timers.map (Option.map (TimerRec.offered t)))) := by
  have htable : offeredTable t d₁.timers (List.finRange 24) d₁.timers =
      d₁.timers.map (Option.map (TimerRec.offered t)) := by
    simp only [offeredTable, List.mem_finRange, if_true]
    exact (eq_ofFn_of_getElem fun i => by simp).symm
  rw [Device.expireTimer, expire, ht]
  dsimp only
  rw [hstages, foldl_offerCount t 22 d₁.timers (List.nodup_finRange 24) (fun _ _ => rfl) (fun c _ => halone c), htable]

theorem onTime_actsOnTime {d : Device} (h : d.onTime) (c : Fin 24) (r : Option TimerRec) : (d.actsOnTime c r).onTime := by
  cases r with
  | none => exact h
  | some r => exact onTime_actions h ..

theorem onTime_foldl_actsOnTime (v : Vector (Option TimerRec) 24) (l : List (Fin 24)) {d : Device} (h : d.onTime) :
    (l.foldl (fun d c => d.actsOnTime c v[c]) d).onTime := by
  induction l generalizing d with
  | nil => exact h
  | cons c l ih => exact ih (onTime_actsOnTime h c _)

/-- A timer of another source counts nothing of timer t's expiry. -/
theorem counts_eq_false {t : Fin 24} {r : TimerRec} (h : r.source ≠ .parent t) : r.counts t = false := by
  simp [TimerRec.counts, h]

theorem offered_of_not_counts {t : Fin 24} {r : TimerRec} (h : r.counts t = false) : r.offered t = r := by
  simp [TimerRec.offered, TimerRec.atLast, h]

/-- The stages of a timer that triggers none change its own record alone, keep its source, and make no entry past
due. -/
theorem expiryStages_untriggered {d : Device} {t : Fin 24} {r : TimerRec} (htr : r.trigger = none) (due : Int)
    (h : d.onTime) (hh : .timer t ∈ d.handed) :
    (d.expiryStages t r due false).onTime ∧
      ∃ r', (d.expiryStages t r due false).timers = d.timers.set t (some r') ∧ r'.source = r.source := by
  rw [expiryStages_eq, Device.triggerStage, htr]
  refine ⟨onTime_actions (onTime_continueTimer h hh _ due) .., ?_⟩
  rw [actions_timers]
  exact continueTimer_timers t _ due d

/-- The hand-over of a timer that triggers none, whose children at their last count act alone: the timer's own stages, a
count to each child, the actions of those at their last count in ascending order of id (R44, R59, R60). -/
theorem exec_timerExpiry_untriggered {s : State} {e : Entry} {t : Fin 24} {r : TimerRec} {d₁ : Device}
    (hm : s.mode = .running) (hsettled : s.toDevice.settled) (he : s.toDevice.headDue = some e) (ho : e.owner = .timer t)
    (ht : s.timers[t] = some r) (htr : r.trigger = none) (hsrc : r.source ≠ .parent t)
    (halone : ∀ c, s.toDevice.CountsAlone t c)
    (hstages : (s.toDevice.takeOwner (.timer t)).expiryStages t r e.due false = d₁) :
    exec .timerExpiry s = .next (s.become
      (((List.finRange 24).filter fun c => (s.timers[c]).any (TimerRec.atLast t)).foldl
        (fun d c => d.actsOnTime c s.timers[c])
        (d₁.withTimers (d₁.timers.map (Option.map (TimerRec.offered t))))).pump) := by
  obtain ⟨hon, r', htimers, hsrc'⟩ := expiryStages_untriggered htr e.due
    (onTime_takeOwner (onTime_iff.2 hsettled.1) (.timer t)) (List.mem_cons_self ..)
  have hworks : TimerWorks (s.toDevice.takeOwner (.timer t)) d₁ := hstages ▸ expiryStages_works e.due false ht
  rw [hstages] at hon htimers
  have hkept (c : Fin 24) (hc : c ≠ t) : d₁.timers[c] = s.timers[c] := by
    rw [htimers, getElem_set_fin, if_neg hc]
    rfl
  have hself : d₁.timers[t] = some r' := by rw [htimers, getElem_set_fin, if_pos rfl]
  have hnot : r'.counts t = false := counts_eq_false (hsrc'.symm ▸ hsrc)
  have hlast (c : Fin 24) : (d₁.timers[c]).any (TimerRec.atLast t) = (s.timers[c]).any (TimerRec.atLast t) := by
    by_cases hc : c = t
    · subst hc
      rw [hself, ht]
      simp [TimerRec.atLast, hnot, counts_eq_false hsrc]
    · rw [hkept c hc]
  have halone₁ (c : Fin 24) : d₁.CountsAlone t c := by
    by_cases hc : c = t
    · subst hc
      intro rx hrx hcounts
      obtain rfl := Option.some.inj (hself.symm.trans hrx)
      rw [hnot] at hcounts
      cases hcounts
    · exact Device.CountsAlone.of_works (d := s.toDevice.takeOwner (.timer t)) (halone c) hworks (hkept c hc)
  rw [exec_timerExpiry hm he ho,
    expireTimer_eq (d := s.toDevice.takeOwner (.timer t)) ht e.due hstages halone₁,
    (onTime_foldl_actsOnTime d₁.timers _ (by exact hon)).drainPastDue]
  simp only [hlast]
  rw [List.foldl_ext _ _ _ fun d c hc => ?_]
  have hct : c ≠ t := by
    rintro rfl
    rw [List.mem_filter, ht] at hc
    simp [TimerRec.atLast, counts_eq_false hsrc] at hc
  rw [hkept c hct]

/-! ### The statement -/

/-- With no frame waiting, the link port leaves the timers. -/
theorem pump_timers {d : Device} (h : d.link.receiveQueue = []) : d.pump.timers = d.timers := by
  have hqueue : d.arbitrate.link.receiveQueue = [] := by
    have hle := (arbitrate_acts d).sameTime.receive
    rw [h] at hle
    exact List.length_eq_zero_iff.1 (Nat.le_zero.1 hle)
  rw [Device.pump, dispatch_nil hqueue, (arbitrate_sameSchedule d).timers]

/-- A child with counts left after this one (R59). -/
theorem offered_of_more {t : Fin 24} {r : TimerRec} (h : r.counts t = true → 2 ≤ r.remaining) :
    r.offered t = if r.counts t then { r with remaining := r.remaining - 1 } else r := by
  refine if_neg fun hlast => ?_
  obtain ⟨hcounts, hone⟩ : r.counts t = true ∧ r.remaining = 1 := by simpa [TimerRec.atLast] using hlast
  have := h hcounts
  omega

/-- The record of a RELATIVE TIME timer after its expiry: IDLE if ONCE (R45, R47). -/
def TimerRec.afterExpiry (r : TimerRec) : TimerRec :=
  { r with
    fires := (r.fires + 1) % 4294967296, state := if r.mode = .once then .idle else r.state
    remaining := if r.mode = .once then r.period else r.remaining }

/-- The entry of a RELATIVE TIME timer after its expiry: the next one if REPEAT (R47, R48). -/
def Device.nextEntry (t : Fin 24) (r : TimerRec) (sc : Scale) (due : Int) (d : Device) : Device :=
  match r.mode with
  | .once => d
  | .repeating => d.insertEntry (.timer t) (due + r.period * sc.ms) none

/-- Stages 1 to 5 of a RELATIVE TIME timer without output, notice and trigger: its record and its entry. -/
theorem expiryStages_silent {r : TimerRec} {sc : Scale} (hk : r.kind = .relative) (hsrc : r.source = .time sc)
    (hout : r.output = none) (hnotice : r.notice = none) (htr : r.trigger = none) (t : Fin 24) (due : Int) (d : Device) :
    d.expiryStages t r due false =
      (d.nextEntry t r sc due).withTimers (d.timers.set t (some r.afterExpiry)) := by
  rw [expiryStages_relative hk htr, actions_none hout hnotice]
  obtain ⟨state, kind, mode, period, source, output, notice, trigger, remaining, fires, lateCount⟩ := r
  obtain rfl : kind = .relative := hk
  obtain rfl : source = .time sc := hsrc
  cases mode <;> rfl

/-- Where no child is at its last count, each counts one and nothing else becomes of the other timers (R59). -/
theorem timers_after_counts {s : State} {e : Entry} {t : Fin 24} {r : TimerRec} (hm : s.mode = .running)
    (hsettled : s.toDevice.settled) (hqueue : s.link.receiveQueue = []) (he : s.toDevice.headDue = some e)
    (ho : e.owner = .timer t) (ht : s.timers[t] = some r) (htr : r.trigger = none) (hsrc : r.source ≠ .parent t)
    (hmore : ∀ (x : Fin 24) rx, s.timers[x] = some rx → rx.counts t = true → 2 ≤ rx.remaining) :
    ∃ u, exec .timerExpiry s = .next u ∧ ∀ x : Fin 24, x ≠ t →
      u.timers[x] = (s.timers[x]).map (TimerRec.offered t) := by
  have halone (c : Fin 24) : s.toDevice.CountsAlone t c := fun rx hrx hcounts => by
    have := hmore c rx hrx hcounts
    exact ⟨by omega, fun hone => by omega⟩
  have hnone : (List.finRange 24).filter (fun c => (s.timers[c]).any (TimerRec.atLast t)) = [] := by
    refine List.filter_eq_nil_iff.2 fun c _ hlast => ?_
    cases hc : s.timers[c] with
    | none => simp [hc] at hlast
    | some rx =>
      obtain ⟨hcounts, hone⟩ : rx.counts t = true ∧ rx.remaining = 1 := by simpa [hc, TimerRec.atLast] using hlast
      have := hmore c rx hc hcounts
      omega
  obtain ⟨d₁, hstages⟩ : ∃ d₁, (s.toDevice.takeOwner (.timer t)).expiryStages t r e.due false = d₁ := ⟨_, rfl⟩
  obtain ⟨-, r', htimers, -⟩ := expiryStages_untriggered htr e.due
    (onTime_takeOwner (onTime_iff.2 hsettled.1) (.timer t)) (List.mem_cons_self ..)
  have hworks : TimerWorks (s.toDevice.takeOwner (.timer t)) d₁ := hstages ▸ expiryStages_works e.due false ht
  have hexec := exec_timerExpiry_untriggered hm hsettled he ho ht htr hsrc halone hstages
  rw [hnone, List.foldl_nil] at hexec
  rw [hstages] at htimers
  have hqueue₁ : (d₁.withTimers (d₁.timers.map (Option.map (TimerRec.offered t)))).link.receiveQueue = [] :=
    (congrArg LinkPort.receiveQueue hworks.sameBase.link).trans hqueue
  refine ⟨_, hexec, fun x hx => ?_⟩
  show (Device.pump _).timers[x] = _
  rw [pump_timers hqueue₁]
  show (d₁.timers.map (Option.map (TimerRec.offered t)))[x] = _
  rw [htimers, Fin.getElem_fin, Vector.getElem_map, ← Fin.getElem_fin, getElem_set_fin, if_neg hx]
  rfl

/-- Settles O24: `timers_after_counts` where no child is at its last count; else the timer's own stages and its children's
counts, whose actions read no record, so that they may follow when every record has moved on. -/
theorem expiryCountsIntoChildren : Obligations.ExpiryCountsIntoChildren := by
  refine ⟨fun s e t r hm hsettled hqueue he ho ht htr hsrc hmore => ?_, ?_⟩
  · have hmore' (x : Fin 24) (rx) (hx : s.timers[x] = some rx) (hcounts : rx.counts t = true) : 2 ≤ rx.remaining := by
      obtain ⟨hparent, hrun⟩ : rx.source = .parent t ∧ rx.state = .running := by simpa [TimerRec.counts] using hcounts
      exact hmore x rx hx hparent hrun
    obtain ⟨u, hu, htimers⟩ := timers_after_counts hm hsettled hqueue he ho ht htr hsrc hmore'
    refine ⟨u, hu, fun x hx => (htimers x hx).trans ?_⟩
    cases hrx : s.timers[x] with
    | none => rfl
    | some rx => simp [offered_of_more (hmore' x rx hrx), TimerRec.counts]
  · intro s e t r sc hm hsettled he ho ht hk hsrc hperiod hout hnotice htr counts last hpos hlast fires record taken next
    have hcounts (c : Fin 24) : counts c = (s.timers[c]).any (TimerRec.counts t) := rfl
    have hatLast (c : Fin 24) : last c = (s.timers[c]).any (TimerRec.atLast t) := by
      simp only [last, hcounts]
      cases s.timers[c] <;> rfl
    have hparent : r.source ≠ .parent t := by simp [hsrc]
    have halone (c : Fin 24) : s.toDevice.CountsAlone t c := fun rx hrx hc => by
      refine ⟨hpos c rx hrx (by rw [hcounts, hrx]; exact hc), fun hone => hlast c rx hrx ?_⟩
      rw [hatLast, hrx]
      simp [TimerRec.atLast, hc, hone]
    have hstages : taken.expiryStages t r e.due false = next.withTimers (s.timers.set t (some r.afterExpiry)) :=
      expiryStages_silent hk hsrc hout hnotice htr t e.due taken
    have htable : (s.timers.set t (some r.afterExpiry)).map (Option.map (TimerRec.offered t)) =
        Vector.ofFn fun x => (s.timers[x]).map (record x) := by
      refine eq_ofFn_of_getElem fun x => ?_
      rw [Fin.getElem_fin, Vector.getElem_map, ← Fin.getElem_fin, getElem_set_fin]
      by_cases hx : x = t
      · subst hx
        rw [if_pos rfl, ht]
        simp only [record, if_true, Option.map_some]
        exact congrArg some (offered_of_not_counts (counts_eq_false hparent))
      · rw [if_neg hx]
        cases hrx : s.timers[x] with
        | none => rfl
        | some rx => simp only [Option.map_some, record, if_neg hx, hatLast, hcounts, hrx, Option.any_some]; rfl
    have hexec := exec_timerExpiry_untriggered hm hsettled he ho ht htr hparent halone hstages
    simp only [← hatLast] at hexec
    refine hexec.trans ?_
    show Host.Outcome.next (s.become (List.foldl _ (next.withTimers ((s.timers.set t (some r.afterExpiry)).map _)) _).pump) = _
    rw [htable]
    rfl

end Sys2Proof.Machine
end

section
/-! The watch requests up to the watch's record, and WATCH_QUERY (R70, R71, R84). -/

namespace Sys2Proof.Machine

/-! ### Reaching the watch's record -/

/-- A watch request of one byte for a defined watch does its act (R70, R71, R84, R96). -/
theorem withWatch_defined {d : Device} {w : Fin 16} {r : WatchRec} (h : d.watches[w] = some r)
    (act : Fin 16 → WatchRec → Taken) : withWatch [byte w] d act = act w r := by
  simp [withWatch, h, -Fin.getElem_fin]

theorem withWatch_badLength {p : List Byte} (h : p.length ≠ 1) (d : Device) (act : Fin 16 → WatchRec → Taken) :
    withWatch p d act = (d, 0x11 :: p.take 1) := if_pos h

theorem withWatch_badId {id : Byte} (h : 15 < id.toNat) (d : Device) (act : Fin 16 → WatchRec → Taken) :
    withWatch [id] d act = (d, [0x12, id]) := by
  have hid : idAt 16 [id] 0 = none := idAt_none (by rw [byteAt_cons_zero]; omega)
  simp [withWatch, hid, refuseEcho, Status.code]

theorem withWatch_free {d : Device} {w : Fin 16} (h : d.watches[w] = none) (act : Fin 16 → WatchRec → Taken) :
    withWatch [byte w] d act = (d, [0x13, byte w]) := by
  simp [withWatch, h, refuseEcho, Status.code, -Fin.getElem_fin]

/-! ### WATCH_QUERY -/

theorem takeWatchQuery_defined {d : Device} {w : Fin 16} {r : WatchRec} (h : d.watches[w] = some r) :
    takeWatchQuery [byte w] d =
      (d, [0x00, byte w, watchStateCode (some r.state)] ++ r.source.fields ++ [r.phase.code] ++
        beBytes 2 r.period ++ beBytes 2 r.grace ++ beBytes 2 r.minInterval ++ beBytes 2 r.settle ++ [r.holdSet] ++
        optInstant r.lastRenewal ++ [byte r.recovery] ++
        beBytes 2 r.renewals ++ beBytes 2 r.warns ++ beBytes 2 r.earlyFaults ++ beBytes 2 r.outOfStep ++
        beBytes 2 r.trips ++ optInstant (d.dueOf (.watch w)) ++ LinkWatch.fields w d.linkWatch) :=
  withWatch_defined h _

/-- Settles O33: the reply is laid out by the definition, and an instant is sent with its presence byte. -/
theorem watchQueryReports : Obligations.WatchQueryReports := by
  constructor
  · intro s tag id w p hready refused
    exact ⟨fun hlen => exec_taken hready .watchQuery tag (withWatch_badLength hlen _ _),
      fun hid => exec_taken hready .watchQuery tag (withWatch_badId hid _ _),
      fun hfree => exec_taken hready .watchQuery tag (withWatch_free hfree _)⟩
  · intro s tag w r hready hr
    have htake := takeWatchQuery_defined hr
    rw [optInstant_dueOf] at htake
    refine (exec_taken hready .watchQuery tag htake).trans ?_
    cases r.lastRenewal with
    | some l => rfl
    | none =>
      rw [optInstant_none]
      rfl

end Sys2Proof.Machine
end

section
/-! The phase rule on a watch's record, its effect by state, and the reply to a check-in (R71 to R75, R79). -/

namespace Sys2Proof.Machine

/-! ### The reply to a check-in -/

section Reply

variable {d : Device} {w : Fin 16} {r : WatchRec}

theorem checkinReply_of_some (h : d.watches[w] = some r) :
    checkinReply w d = [byte w, watchStateCode (some r.state), r.phase.code, byte r.recovery] := by
  rw [checkinReply, h]

theorem checkinReply_of_none (h : d.watches[w] = none) : checkinReply w d = [byte w, 0x00, 0xFF, 0xFF] := by
  rw [checkinReply, h]
  rfl

theorem checkinReply_eq_checkinFields (w : Fin 16) (d : Device) : checkinReply w d = d.checkinFields w := by
  unfold checkinReply Device.checkinFields
  cases d.watches[w] <;> rfl

/-- The record that a retrip leaves. -/
theorem retrip_watch (r : WatchRec) (d : Device) :
    (d.retrip r).watches[(0 : Fin 16)] = some { r with trips := addStop16 r.trips 1, recovery := 0 } := by
  unfold Device.retrip
  dsimp only
  split <;> exact (setWatch_stands 0 _ d).record

/-- What the hand-over of a watch's entry leaves of its record, as a reply reports it (R87, R90, R100, R110). -/
theorem checkinReply_watchDeadline (h : d.watches[w] = some r) :
    checkinReply w (d.watchDeadline w) =
      match r.state with
      | .dormant => [byte w, 0x01, r.phase.code, byte r.recovery]
      | .running => [byte w, 0x03, (d.sourcePhase r.source).code, byte r.recovery]
      | .warn => [byte w, 0x04, r.phase.code, 0x00]
      | .tripped => [byte w, 0x04, r.phase.code, byte (if w = 0 then 0 else r.recovery)]
      | .releasing => [byte w, 0x02, r.phase.code, 0x00] := by
  unfold Device.watchDeadline
  rw [h]
  dsimp only
  cases hs : r.state with
  | dormant =>
    dsimp only
    rw [checkinReply_of_some h, hs]
    rfl
  | running => exact checkinReply_of_some (enterWarn_leaves w .expired r d).stands.record
  | warn => exact checkinReply_of_some (trip_leaves w .expired r d).stands.record
  | releasing => exact checkinReply_of_some (completeRelease_leaves w r d).stands.record
  | tripped =>
    dsimp only
    by_cases hw : w = 0
    · subst hw
      rw [if_pos rfl, if_pos rfl, checkinReply_of_some (retrip_watch r d), hs]
      rfl
    · rw [if_neg hw, if_neg hw, checkinReply_of_some h, hs]
      rfl

/-- The reply to a check-in reports the record after both events of the instant (R75, R113). -/
theorem checkinReply_afterHandOver (w : Fin 16) (d : Device) : checkinReply w (d.afterHandOver w) = d.reported w := by
  unfold Device.afterHandOver Device.reported
  cases hr : d.watches[w] with
  | none =>
    have hstay : d.watchDeadline w = d := by
      rw [Device.watchDeadline, hr]
    cases d.entryOf (.watch w) <;> simp only [hstay, ite_self, checkinReply_eq_checkinFields]
  | some r =>
    cases d.entryOf (.watch w) with
    | none => exact checkinReply_eq_checkinFields w d
    | some e =>
      dsimp only
      split
      · rw [checkinReply_watchDeadline hr]
        cases r.state <;> rfl
      · exact checkinReply_eq_checkinFields w d

end Reply

theorem checkinAnswer_eq (w : Fin 16) (res : Device × Judgement) :
    checkinAnswer w res = (res.1, res.2.status.code :: res.1.reported w) := by
  rw [checkinAnswer, checkinReply_afterHandOver]

/-! ### The phase rule (R72, R73, R79) -/

section PhaseRule

variable {d : Device} {w : Fin 16} {r : WatchRec}

/-- A request's half moves the phase of a LINK-sourced watch. -/
theorem movePhase_link (h : r.source = .link) (ph : Phase) : r.movePhase ph = { r with phase := ph } := by
  simp only [WatchRec.movePhase, h]

/-- The phase of a LINE-sourced watch follows its line alone (R83). -/
theorem movePhase_line {n : Fin 8} {a : Level} (h : r.source = .line n a) (ph : Phase) : r.movePhase ph = r := by
  simp only [WatchRec.movePhase, h]

theorem prepare_opened (h : r.phase = .opened) : d.prepare w r = (d.setWatch w (some (r.movePhase .half)), .ok) := by
  rw [Device.prepare, h]

theorem prepare_half (h : r.phase = .half) : d.prepare w r = (d.outOfStep w (r.movePhase .opened), .outOfStep) := by
  rw [Device.prepare, h]

theorem confirm_opened (h : r.phase = .opened) (store : WatchRec → WatchRec) :
    d.confirm w r store = (d.outOfStep w (r.movePhase .half), .outOfStep) := by
  rw [Device.confirm, h]

theorem confirm_renews (h : r.phase = .half) (hlate : ∀ l, r.lastRenewal = some l → l + r.minInterval ≤ d.elapsed)
    (store : WatchRec → WatchRec) : d.confirm w r store = (d.renew w (store (r.movePhase .opened)), .ok) := by
  rw [Device.confirm, h, isEarly_eq_false hlate]
  rfl

theorem confirm_early (h : r.phase = .half) {l : Nat} (hlast : r.lastRenewal = some l)
    (hearly : d.elapsed < l + r.minInterval) (store : WatchRec → WatchRec) :
    d.confirm w r store = (d.earlyCandidate w (r.movePhase .opened), .early) := by
  rw [Device.confirm, h, isEarly_eq_true hlast hearly]
  rfl

/-! ### The effect by state (R86 to R91, R94, R98, R99, R109) -/

/-- Out of step outside RELEASING is a count alone. -/
theorem outOfStep_counts (h : r.state ≠ .releasing) :
    d.outOfStep w r = d.setWatch w (some { r with outOfStep := min (r.outOfStep + 1) 65535 }) := by
  unfold Device.outOfStep
  cases hs : r.state with
  | releasing => exact absurd hs h
  | _ => rfl

/-- Out of step in RELEASING aborts the release. -/
theorem outOfStep_aborts (h : r.state = .releasing) :
    d.outOfStep w r = d.abortRelease w .outOfStep { r with outOfStep := min (r.outOfStep + 1) 65535 } := by
  simp only [Device.outOfStep, h]
  rfl

/-- A renewal of a WARN watch (R89). -/
theorem renew_warn (h : r.state = .warn) :
    d.renew w r = ((d.setWatch w (some { r with
      state := .running, lastRenewal := some d.elapsed, renewals := min (r.renewals + 1) 65535 })).insertEntry
        (.watch w) (d.elapsed + r.period) none).notify (.watchRecovered w) := by
  simp only [Device.renew, WatchRec.renewed, h]
  rfl

/-- A renewal of a TRIPPED watch (R94, R109). -/
theorem renew_tripped (h : r.state = .tripped) :
    d.renew w r =
      let d' := d.setWatch w (some { r with
        lastRenewal := some d.elapsed, renewals := min (r.renewals + 1) 65535, recovery := min (r.recovery + 1) 2 })
      if w = 0 ∧ d.linkWatch.lockout = false then
        d'.insertEntry (.watch 0) (d.elapsed + r.period + r.grace) none else d' := by
  simp only [Device.renew, WatchRec.renewed, h]
  rfl

/-- A renewal of a RELEASING watch (R98). -/
theorem renew_releasing (h : r.state = .releasing) :
    d.renew w r = d.setWatch w (some { r with
      lastRenewal := some d.elapsed, renewals := min (r.renewals + 1) 65535 }) := by
  simp only [Device.renew, WatchRec.renewed, h]
  rfl

/-- The abort of a release, with the list written out (R99, R112). -/
theorem abortRelease_eq (w : Fin 16) (cause : Cause) (r : WatchRec) (d : Device) :
    d.abortRelease w cause r =
      let d' : Device := { d with
        watches := d.watches.set w (some { r with state := .tripped, recovery := 0 })
        deadlines := d.deadlines.filter (fun e => e.owner ≠ .watch w) }
      (if w = 0 ∧ d.linkWatch.lockout = false then
        d'.insertEntry (.watch 0) (d.elapsed + r.period + r.grace) none else d').notify (.releaseAborted w cause) := by
  simp only [← removeOwner_eq_filter]
  rfl

/-- An early candidate enters WARN from RUNNING (R88). -/
theorem earlyCandidate_warns (h : r.state = .running) :
    d.earlyCandidate w r = ((d.setWatch w (some { r with
      state := .warn, phase := d.sourcePhase r.source, earlyFaults := min (r.earlyFaults + 1) 65535
      warns := min (r.warns + 1) 65535 })).insertEntry (.watch w) (d.elapsed + r.grace) none).notify
        (.watchWarn w .early) := by
  simp only [Device.earlyCandidate, h, Device.enterWarn]
  rfl

/-- An early candidate trips a watch 1 to 15 from WARN (R90, R91). -/
theorem earlyCandidate_trips (h : r.state = .warn) (hw : w ≠ 0) :
    d.earlyCandidate w r =
      let d' : Device := { d with
        watches := d.watches.set w (some { r with
          state := .tripped, earlyFaults := min (r.earlyFaults + 1) 65535, trips := min (r.trips + 1) 65535
          recovery := 0 })
        deadlines := d.deadlines.filter (fun e => e.owner ≠ .watch w) }
      ((d'.addHolds w r.holdSet).notify (.watchTripped w .early)).recordTrip w .early := by
  simp only [Device.earlyCandidate, h, Device.trip, Device.tripDeadline, if_neg hw, ← removeOwner_eq_filter]
  rfl

/-- An early candidate takes a TRIPPED watch's recovery (R94). -/
theorem earlyCandidate_tripped (h : r.state = .tripped) :
    d.earlyCandidate w r = d.setWatch w (some { r with
      earlyFaults := min (r.earlyFaults + 1) 65535, recovery := 0 }) := by
  simp only [Device.earlyCandidate, h]
  rfl

/-- An early candidate aborts a release (R99). -/
theorem earlyCandidate_aborts (h : r.state = .releasing) :
    d.earlyCandidate w r =
      d.abortRelease w .early { r with earlyFaults := min (r.earlyFaults + 1) 65535 } := by
  simp only [Device.earlyCandidate, h]
  rfl

end PhaseRule

end Sys2Proof.Machine
end

section
/-! CHECK_PREP and CHECK_CONF of a LINK-sourced watch (R71 to R75). -/

namespace Sys2Proof.Machine

/-! ### The check-ins reach the phase rule -/

section Checkins

variable {d d' : Device} {w : Fin 16} {r : WatchRec} {j : Judgement}

/-- A check-in of a LINK-sourced active watch does its act (R71). -/
theorem withLinkCheckin_link (h : d.watches[w] = some r) (hsrc : r.source = .link) (hs : r.state ≠ .dormant)
    (act : Fin 16 → WatchRec → Taken) : withLinkCheckin [byte w] d act = act w r := by
  rw [withLinkCheckin, withWatch_defined h, hsrc]
  cases hst : r.state with
  | dormant => exact absurd hst hs
  | _ => rfl

theorem takeCheckPrep_judged (h : d.watches[w] = some r) (hsrc : r.source = .link) (hs : r.state ≠ .dormant)
    (hj : d.prepare w r = (d', j)) : takeCheckPrep [byte w] d = (d', j.status.code :: d'.reported w) := by
  rw [takeCheckPrep, withLinkCheckin_link h hsrc hs, hj, checkinAnswer_eq]

theorem takeCheckConf_judged (h : d.watches[w] = some r) (hsrc : r.source = .link) (hs : r.state ≠ .dormant)
    (hj : d.confirm w r id = (d', j)) : takeCheckConf [byte w] d = (d', j.status.code :: d'.reported w) := by
  rw [takeCheckConf, withLinkCheckin_link h hsrc hs, hj, checkinAnswer_eq]

/-- Either half where the phase expects the other is out of step and turns the phase (R72). -/
theorem takeCheckin_outOfStep (h : d.watches[w] = some r) (hsrc : r.source = .link) (hs : r.state ≠ .dormant)
    {q : Request} {phase : Phase}
    (hq : (q = .checkPrep ∧ r.phase = .half ∧ phase = .opened) ∨ (q = .checkConf ∧ r.phase = .opened ∧ phase = .half)) :
    takeRequest q [byte w] d =
      (d.outOfStep w { r with phase := phase }, 0x19 :: (d.outOfStep w { r with phase := phase }).reported w) := by
  rw [← movePhase_link hsrc phase]
  rcases hq with ⟨rfl, hph, rfl⟩ | ⟨rfl, hph, rfl⟩
  · exact takeCheckPrep_judged h hsrc hs (prepare_half hph)
  · exact takeCheckConf_judged h hsrc hs (confirm_opened hph id)

/-- A renewal by CHECK_CONF (R73). -/
theorem takeCheckConf_renews (h : d.watches[w] = some r) (hsrc : r.source = .link) (hs : r.state ≠ .dormant)
    (hph : r.phase = .half) (hlate : ∀ l, r.lastRenewal = some l → l + r.minInterval ≤ d.elapsed)
    (hd : d.renew w { r with phase := .opened } = d') : takeCheckConf [byte w] d = (d', 0x00 :: d'.reported w) :=
  takeCheckConf_judged h hsrc hs (by rw [confirm_renews hph hlate, movePhase_link hsrc, id, hd])

/-- An early candidate by CHECK_CONF (R73). -/
theorem takeCheckConf_early (h : d.watches[w] = some r) (hsrc : r.source = .link) (hs : r.state ≠ .dormant)
    (hph : r.phase = .half) {l : Nat} (hlast : r.lastRenewal = some l) (hearly : d.elapsed < l + r.minInterval)
    (hd : d.earlyCandidate w { r with phase := .opened } = d') :
    takeCheckConf [byte w] d = (d', 0x1A :: d'.reported w) :=
  takeCheckConf_judged h hsrc hs (by rw [confirm_early hph hlast hearly, movePhase_link hsrc, hd])

end Checkins

/-- No reply to a check-in depends on the notice queue. -/
theorem reported_notify (w : Fin 16) (body : NoticeBody) (d : Device) : (d.notify body).reported w = d.reported w := rfl

/-- Settles O27: an accepted CHECK_PREP moves the phase alone; out of step is counted, and aborts a release. -/
theorem checkPrepAndOutOfStep : Obligations.CheckPrepAndOutOfStep := by
  intro s tag w r hready hr hsrc hs
  constructor
  · intro hph d
    have hprep : s.toDevice.prepare w r = (d, .ok) := by
      rw [prepare_opened hph, movePhase_link hsrc]
      rfl
    exact exec_taken hready .checkPrep tag (takeCheckPrep_judged hr hsrc hs hprep)
  · intro q phase hq r'
    have htake := takeCheckin_outOfStep hr hsrc hs hq
    constructor
    · intro hst d
      rw [outOfStep_counts (by exact hst)] at htake
      exact exec_taken hready q tag htake
    · intro hst d d'
      rw [outOfStep_aborts (by exact hst), abortRelease_eq, reported_notify] at htake
      exact exec_taken hready q tag htake

/-- Settles O28: the renewal, by state. -/
theorem confirmRenews : Obligations.ConfirmRenews := by
  intro s tag w r hready hr hsrc hph hlate r' put leaves
  have renews {d : Device} (hs : r.state ≠ .dormant) (hd : s.toDevice.renew w { r with phase := .opened } = d) :
      leaves d := exec_taken hready .checkConf tag (takeCheckConf_renews hr hsrc hs hph hlate hd)
  refine ⟨fun hs => ?_, fun hs => ?_, fun hs => ?_, fun hs => ?_⟩
  · exact renews (by simp [hs]) (renew_running (by exact hs))
  · exact renews (by simp [hs]) (renew_warn (by exact hs))
  · exact renews (by simp [hs]) (renew_tripped (by exact hs))
  · exact renews (by simp [hs]) (renew_releasing (by exact hs))

/-- Settles O29: the early candidate, by state; the phase that a LINK source gives in WARN is OPEN. -/
theorem confirmEarlyEscalates : Obligations.ConfirmEarlyEscalates := by
  intro s tag w r l hready hr hsrc hph hlast hearly hw r' put leaves
  have escalates {d : Device} (hs : r.state ≠ .dormant)
      (hd : s.toDevice.earlyCandidate w { r with phase := .opened } = d) : leaves d :=
    exec_taken hready .checkConf tag (takeCheckConf_early hr hsrc hs hph hlast hearly hd)
  refine ⟨fun hs => ?_, fun hs => ?_, fun hs => ?_, fun hs => ?_⟩
  · refine escalates (by simp [hs]) ((earlyCandidate_warns (by exact hs)).trans ?_)
    rw [hsrc]
    rfl
  · exact escalates (by simp [hs]) (earlyCandidate_trips (by exact hs) hw)
  · exact escalates (by simp [hs]) (earlyCandidate_tripped (by exact hs))
  · refine escalates (by simp [hs]) ((earlyCandidate_aborts (by exact hs)).trans ?_)
    rw [abortRelease_eq]
    simp only [hw, false_and, if_false]
    rfl

end Sys2Proof.Machine
end

section
/-! WATCH_RETIRE: a watch freed at once or by a renewal, and the retires that free none (R82, R83). -/

namespace Sys2Proof.Machine

/-! ### Freeing a watch -/

section Free

variable {w : Fin 16} (r : WatchRec) (d : Device)

/-- A freed watch, field by field (R82): its record, its entry and its check-in claim gone. -/
theorem freeWatch_eq :
    d.freeWatch w r =
      { d with
        watches := d.watches.set w none
        inputs := match r.source with
          | .line n _ => d.inputs.set n { d.inputs[n] with role := .none }
          | .link => d.inputs
        deadlines := d.deadlines.filter (fun e => e.owner ≠ .watch w) } := by
  rw [← removeOwner_eq_filter]
  unfold Device.freeWatch Device.releaseCheckin
  cases r.source <;> rfl

theorem freeWatch_watch : (d.freeWatch w r).watches[w] = none := by
  rw [Device.freeWatch, Device.setWatch_watches, getElem_set_fin, if_pos rfl]

/-- What the record held before does not matter to the device that a freeing leaves, -/
theorem freeWatch_setWatch (x : Option WatchRec) : (d.setWatch w x).freeWatch w r = d.freeWatch w r := by
  simp only [freeWatch_eq, Device.setWatch, Vector.set_set]

/-- nor does an entry that it had; -/
theorem freeWatch_insertEntry (due : Int) (wall : Option Nat) :
    (d.insertEntry (.watch w) due wall).freeWatch w r = d.freeWatch w r := by
  have hlist := congrArg Device.deadlines (takeOwner_insertEntry (.watch w) due wall d)
  rw [Device.takeOwner_deadlines, Device.takeOwner_deadlines] at hlist
  simp only [freeWatch_eq, ← removeOwner_eq_filter, hlist]
  rfl

/-- a notice appended before it stands. -/
theorem freeWatch_notify (body : NoticeBody) : (d.notify body).freeWatch w r = (d.freeWatch w r).notify body := by
  simp only [freeWatch_eq]
  rfl

end Free

/-! ### The answers of WATCH_RETIRE -/

section Retire

variable {d d' : Device} {w : Fin 16} {r : WatchRec} {j : Judgement}

theorem reported_of_none (h : d.watches[w] = none) : d.reported w = [byte w, 0x00, 0xFF, 0xFF] := by
  simp only [Device.reported, Device.checkinFields, h]

/-- The id of a watch 1 to 15 is no zero byte. -/
theorem byteAt_id_ne_zero (hw : w ≠ 0) (p : List Byte) : byteAt (byte w :: p) 0 ≠ 0 := fun hz =>
  hw (Fin.ext ((toNat_byte_fin16 w).symm.trans hz))

/-- A WATCH_RETIRE of another id than watch 0's goes through the checks of every one-byte watch request (R82). -/
theorem takeWatchRetire_nonzero {id : Byte} (h : id.toNat ≠ 0) (d : Device) :
    ∃ act, takeWatchRetire [id] d = withWatch [id] d act :=
  ⟨_, if_neg fun hzero => h hzero.2⟩

/-- WATCH_RETIRE of a defined watch 1 to 15, by its state (R82). -/
theorem takeWatchRetire_defined (h : d.watches[w] = some r) (hw : w ≠ 0) :
    takeWatchRetire [byte w] d =
      match r.state with
      | .dormant => (d.freeWatch w r, [0x00, byte w, 0x00, 0xFF, 0xFF])
      | .running => checkinAnswer w (d.retireActive w r)
      | .warn => checkinAnswer w (d.retireActive w r)
      | .tripped => (d, [0x18, byte w])
      | .releasing => (d, [0x18, byte w]) := by
  rw [takeWatchRetire, if_neg fun hz => byteAt_id_ne_zero hw [] hz.2, withWatch_defined h]
  cases r.state with
  | dormant =>
    dsimp only
    rw [checkinReply_of_none (freeWatch_watch r d)]
    rfl
  | _ => rfl

theorem takeWatchRetire_judged (h : d.watches[w] = some r) (hw : w ≠ 0) (hs : r.state = .running ∨ r.state = .warn)
    (hj : d.retireActive w r = (d', j)) : takeWatchRetire [byte w] d = (d', j.status.code :: d'.reported w) := by
  rw [takeWatchRetire_defined h hw, hj, checkinAnswer_eq]
  rcases hs with hs | hs <;> rw [hs]

/-- A retire that is no renewal does what the confirm form does. -/
theorem retireActive_of_not_ok (hc : d.confirm w r id = (d', j)) (hj : j ≠ .ok) : d.retireActive w r = (d', j) := by
  rw [Device.retireActive, hc]
  cases j with
  | ok => exact absurd rfl hj
  | _ => rfl

/-- A retire that renews frees the watch; from WARN the notice of the renewal stands. -/
theorem retireActive_renews (hs : r.state = .running ∨ r.state = .warn) (hph : r.phase = .half)
    (hlate : ∀ l, r.lastRenewal = some l → l + r.minInterval ≤ d.elapsed) :
    d.retireActive w r =
      (if r.state = .warn then (d.freeWatch w r).notify (.watchRecovered w) else d.freeWatch w r, .ok) := by
  have hstate : (r.movePhase .opened).state = r.state := by
    unfold WatchRec.movePhase
    cases r.source <;> rfl
  rw [Device.retireActive, confirm_renews hph hlate]
  dsimp only
  rcases hs with hs | hs
  · rw [id, renew_running (hstate.trans hs), freeWatch_insertEntry, freeWatch_setWatch, if_neg (by simp [hs])]
  · rw [id, renew_warn (hstate.trans hs), freeWatch_notify, freeWatch_insertEntry, freeWatch_setWatch, if_pos hs]

/-- The record after a request's half: the phase moved for LINK, as it was for LINE (R72, R83). -/
theorem movePhase_eq (r : WatchRec) (ph : Phase) :
    r.movePhase ph = { r with
      phase := match r.source with
        | .link => ph
        | .line _ _ => r.phase } := by
  cases hsrc : r.source with
  | link => rw [movePhase_link hsrc, hsrc]
  | line n a => rw [movePhase_line hsrc]; cases r; cases hsrc; rfl

end Retire

/-- Settles O31: by state and phase, a retire frees the watch or does what the confirm form does. -/
theorem watchRetireFrees : Obligations.WatchRetireFrees := by
  intro s tag w r hready hr hw freed
  have hfree : s.toDevice.freeWatch w r = freed := freeWatch_eq r s.toDevice
  have hnone : freed.watches[w] = none := hfree ▸ freeWatch_watch r s.toDevice
  refine ⟨fun hs => ?_, fun hs hph hlate => ?_, fun hs hph => ?_, fun l hph hlast hearly hlevel => ?_⟩
  · refine exec_taken hready .watchRetire tag ((takeWatchRetire_defined hr hw).trans ?_)
    rw [hs, hfree]
  · have htake := takeWatchRetire_judged hr hw hs (retireActive_renews hs hph hlate)
    have hreply : (if r.state = .warn then freed.notify (.watchRecovered w) else freed).reported w =
        [byte w, 0x00, 0xFF, 0xFF] := by
      split
      · rw [reported_notify, reported_of_none hnone]
      · exact reported_of_none hnone
    rw [hfree, hreply] at htake
    exact exec_taken hready .watchRetire tag htake
  · intro phase d
    have hout := confirm_opened (d := s.toDevice) (w := w) hph id
    rw [movePhase_eq, hph, outOfStep_counts (by rcases hs with hs | hs <;> simp [hs])] at hout
    exact exec_taken hready .watchRetire tag (takeWatchRetire_judged hr hw hs (retireActive_of_not_ok hout nofun))
  · intro phase r' put leaves
    have hconfirm := confirm_early (w := w) hph hlast hearly id
    rw [movePhase_eq, hph] at hconfirm
    have escalates {d : Device} (hs : r.state = .running ∨ r.state = .warn)
        (hd : s.toDevice.earlyCandidate w { r with phase := phase } = d) : leaves d :=
      exec_taken hready .watchRetire tag (takeWatchRetire_judged hr hw hs
        (retireActive_of_not_ok (hconfirm.trans (congrArg (·, Judgement.early) hd)) nofun))
    have hphase : s.toDevice.sourcePhase r.source = phase := by
      unfold Device.sourcePhase phase
      cases hsrc : r.source with
      | link => rfl
      | line n a => exact if_pos (hlevel n a hsrc)
    refine ⟨fun hs => escalates (.inl hs) ?_, fun hs => escalates (.inr hs) (earlyCandidate_trips (by exact hs) hw)⟩
    have hwarn := earlyCandidate_warns (d := s.toDevice) (w := w) (r := { r with phase := phase }) hs
    rw [hphase] at hwarn
    exact hwarn

end Sys2Proof.Machine
end

section
/-! WATCH_DEFINE and WATCH_START: what is read from a definition's payload, and what is stored (R67 to R70). -/

namespace Sys2Proof.Machine

/-! ### The timing fields of WATCH_DEFINE and WATCH_RETUNE (Table 11-5) -/

/-- The nine bytes of period, grace, min interval, settle and hold set. -/
def timingBytes (period grace minInterval settle : Nat) (holdSet : Byte) : List Byte :=
  beBytes 2 period ++ beBytes 2 grace ++ beBytes 2 minInterval ++ beBytes 2 settle ++ [holdSet]

/-- The times fit the fields that carry them. -/
structure FitsFields (period grace minInterval settle : Nat) : Prop where
  period : period < 65536
  grace : grace < 65536
  minInterval : minInterval < 65536
  settle : settle < 65536

section Timing

variable {period grace minInterval settle : Nat} (holdSet : Byte) (h : FitsFields period grace minInterval settle)

theorem length_timingBytes : (timingBytes period grace minInterval settle holdSet).length = 9 := rfl

theorem byteAt_holdSet : byteAt (timingBytes period grace minInterval settle holdSet) 8 = holdSet.toNat := rfl

/-- A two-byte field read back at the front. -/
theorem fieldAt_zero_two {n : Nat} (h : n < 65536) (rest : List Byte) : fieldAt (beBytes 2 n ++ rest) 0 2 = n :=
  (fieldAt_zero_beBytes 2 n rest).trans (Nat.mod_eq_of_lt h)

include h

theorem fieldAt_timing_period : fieldAt (timingBytes period grace minInterval settle holdSet) 0 2 = period :=
  fieldAt_zero_two h.period (beBytes 2 grace ++ beBytes 2 minInterval ++ beBytes 2 settle ++ [holdSet])

theorem fieldAt_timing_grace : fieldAt (timingBytes period grace minInterval settle holdSet) 2 2 = grace :=
  fieldAt_zero_two h.grace (beBytes 2 minInterval ++ beBytes 2 settle ++ [holdSet])

theorem fieldAt_timing_minInterval : fieldAt (timingBytes period grace minInterval settle holdSet) 4 2 = minInterval :=
  fieldAt_zero_two h.minInterval (beBytes 2 settle ++ [holdSet])

theorem fieldAt_timing_settle : fieldAt (timingBytes period grace minInterval settle holdSet) 6 2 = settle :=
  fieldAt_zero_two h.settle [holdSet]

end Timing

theorem timingInRange_iff {period grace minInterval settle : Nat} :
    timingInRange period grace minInterval settle = true ↔
      10 ≤ period ∧ period ≤ 60000 ∧ 10 ≤ grace ∧ grace ≤ 60000 ∧ minInterval < period ∧ settle ≤ 10000 :=
  decide_eq_true_iff

/-- Times in range fit their fields (R67). -/
theorem fitsFields_of_inRange {period grace minInterval settle : Nat}
    (h : timingInRange period grace minInterval settle = true) : FitsFields period grace minInterval settle := by
  rw [timingInRange_iff] at h
  constructor <;> omega

/-! ### The payload of a definition -/

/-- A definition is read where its times are in range and its source is read (R67). -/
theorem parseWatch_timing {id source line level : Byte} {period grace minInterval settle : Nat} {holdSet : Byte}
    (h : FitsFields period grace minInterval settle) :
    parseWatch ([id, source, line, level] ++ timingBytes period grace minInterval settle holdSet) =
      if timingInRange period grace minInterval settle then
        (parseWatchSource ([id, source, line, level] ++ timingBytes period grace minInterval settle holdSet)).map
          fun src =>
            { state := .dormant, source := src, phase := .opened, period := period, grace := grace,
              minInterval := minInterval, settle := settle, holdSet := holdSet, lastRenewal := none, recovery := 0,
              renewals := 0, warns := 0, earlyFaults := 0, outOfStep := 0, trips := 0 }
      else none := by
  rw [parseWatch]
  simp only [List.cons_append, List.nil_append, fieldAt_cons_succ, byteAt_cons_succ, byteAt_holdSet, byte_toNat,
    fieldAt_timing_period holdSet h, fieldAt_timing_grace holdSet h, fieldAt_timing_minInterval holdSet h,
    fieldAt_timing_settle holdSet h]

theorem levelOfCode_levelCode (a : Level) : levelOfCode (levelCode a).toNat = some a := by
  cases a <;> rfl

/-- The bytes of a definition's payload, with the source read back from them. -/
theorem definePayload_split (w : Fin 16) (r : WatchRec) :
    ∃ source line level : Byte,
      r.definePayload w =
        [byte w, source, line, level] ++ timingBytes r.period r.grace r.minInterval r.settle r.holdSet ∧
      parseWatchSource (r.definePayload w) = some r.source := by
  unfold WatchRec.definePayload
  cases r.source with
  | link => exact ⟨0x00, 0x00, 0x00, rfl, rfl⟩
  | line n a =>
    refine ⟨0x01, byte n, levelCode a, rfl, ?_⟩
    simp [parseWatchSource, idAt_cons_succ, levelOfCode_levelCode]

theorem length_watchPayload (w : Fin 16) (r : WatchRec) : (r.definePayload w).length = 13 := by
  obtain ⟨source, line, level, hp, -⟩ := definePayload_split w r
  rw [hp]
  rfl

theorem idAt_watchPayload (w : Fin 16) (r : WatchRec) : idAt 16 (r.definePayload w) 0 = some w := by
  obtain ⟨source, line, level, hp, -⟩ := definePayload_split w r
  rw [hp]
  exact idAt_byte_fin16 w _

/-- A definable record has the state, phase and counts of a fresh definition. -/
theorem WatchRec.definable.fresh {r : WatchRec} (h : r.definable) :
    { state := .dormant, source := r.source, phase := .opened, period := r.period, grace := r.grace,
      minInterval := r.minInterval, settle := r.settle, holdSet := r.holdSet, lastRenewal := none, recovery := 0,
      renewals := 0, warns := 0, earlyFaults := 0, outOfStep := 0, trips := 0 } = r := by
  obtain ⟨hdormant, hphase, -, -, -, -, hlast, hrecovery, hrenewals, hwarns, hearly, hout, htrips⟩ := h
  cases r
  simp_all only

theorem WatchRec.definable.inRange {r : WatchRec} (h : r.definable) :
    timingInRange r.period r.grace r.minInterval r.settle = true :=
  timingInRange_iff.2 ⟨h.period.1, h.period.2, h.grace.1, h.grace.2, h.minInterval, h.settle⟩

/-- A definition read back from its payload (R67, R69). -/
theorem parseWatch_definePayload {r : WatchRec} (h : r.definable) (w : Fin 16) :
    parseWatch (r.definePayload w) = some r := by
  obtain ⟨source, line, level, hp, hsource⟩ := definePayload_split w r
  rw [hp] at hsource ⊢
  rw [parseWatch_timing (fitsFields_of_inRange h.inRange), if_pos h.inRange, hsource]
  exact congrArg some h.fresh

/-! ### Storing a definition -/

theorem releaseCheckin_inputs_getElem (r : WatchRec) (d : Device) (n : Fin 8) :
    (d.releaseCheckin r).inputs[n] =
      if r.source.inputLine = some n then { d.inputs[n] with role := .none } else d.inputs[n] := by
  unfold Device.releaseCheckin
  cases r.source with
  | link => simp [WatchSource.inputLine]
  | line m a =>
    by_cases h : n = m <;> simp [WatchSource.inputLine, getElem_set_fin, h, eq_comm, -Fin.getElem_fin]

theorem takeCheckin_inputs_getElem (w : Fin 16) (r : WatchRec) (d : Device) (n : Fin 8) :
    (d.takeCheckin w r).inputs[n] =
      if r.source.inputLine = some n then { d.inputs[n] with role := .checkin w } else d.inputs[n] := by
  unfold Device.takeCheckin
  cases r.source with
  | link => simp [WatchSource.inputLine]
  | line m a =>
    by_cases h : n = m <;> simp [WatchSource.inputLine, getElem_set_fin, h, eq_comm, -Fin.getElem_fin]

theorem forgetWatch_inputs_getElem (w : Fin 16) (d : Device) (n : Fin 8) :
    (d.forgetWatch w).inputs[n] =
      if d.watches[w].bind (fun old => old.source.inputLine) = some n then { d.inputs[n] with role := .none }
      else d.inputs[n] := by
  unfold Device.forgetWatch
  cases d.watches[w] with
  | none => simp
  | some old => exact releaseCheckin_inputs_getElem old d n

/-- Giving up a claim moves no filtered level, so that the phase a source gives stays. -/
theorem sourcePhase_forgetWatch (w : Fin 16) (d : Device) (src : WatchSource) :
    (d.forgetWatch w).sourcePhase src = d.sourcePhase src := by
  cases src with
  | link => rfl
  | line n active =>
    refine if_congr ?_ rfl rfl
    rw [forgetWatch_inputs_getElem]
    split <;> rfl

theorem defineWatch_inputs_getElem (w : Fin 16) (r : WatchRec) (d : Device) (n : Fin 8) :
    (d.defineWatch w r).inputs[n] =
      if r.source.inputLine = some n then { d.inputs[n] with role := .checkin w }
      else if d.watches[w].bind (fun old => old.source.inputLine) = some n then { d.inputs[n] with role := .none }
      else d.inputs[n] := by
  rw [Device.defineWatch_eq, takeCheckin_inputs_getElem, Device.setWatch_inputs, forgetWatch_inputs_getElem]
  split <;> split <;> rfl

/-- The claims of a watch are roles of the input lines alone. -/
theorem releaseCheckin_inputs_only (r : WatchRec) (d : Device) : ∃ v, d.releaseCheckin r = d.withInputs v := by
  unfold Device.releaseCheckin
  cases r.source <;> exact ⟨_, rfl⟩

theorem takeCheckin_inputs_only (w : Fin 16) (r : WatchRec) (d : Device) : ∃ v, d.takeCheckin w r = d.withInputs v := by
  unfold Device.takeCheckin
  cases r.source <;> exact ⟨_, rfl⟩

theorem forgetWatch_inputs_only (w : Fin 16) (d : Device) : ∃ v, d.forgetWatch w = d.withInputs v := by
  unfold Device.forgetWatch
  cases d.watches[w] with
  | none => exact ⟨d.inputs, rfl⟩
  | some old => exact releaseCheckin_inputs_only old d

/-- A definition changes only its watch and the roles. -/
theorem defineWatch_changes (w : Fin 16) (r : WatchRec) (d : Device) :
    d.defineWatch w r =
      { d with watches := (d.defineWatch w r).watches, inputs := (d.defineWatch w r).inputs } := by
  obtain ⟨u, hu⟩ := forgetWatch_inputs_only w d
  obtain ⟨v, hv⟩ := takeCheckin_inputs_only w r
    ((d.forgetWatch w).setWatch w (some { r with phase := (d.forgetWatch w).sourcePhase r.source }))
  rw [Device.defineWatch_eq, hv, hu]
  rfl

/-- An accepted definition, field by field (R69). -/
theorem defineWatch_fields (w : Fin 16) (r : WatchRec) (d : Device) :
    d.defineWatch w r =
      { d with
        watches := d.watches.set w (some { r with phase := d.sourcePhase r.source })
        inputs := Vector.ofFn (fun n =>
          if r.source.inputLine = some n then { d.inputs[n] with role := .checkin w }
          else if d.watches[w].bind (fun old => old.source.inputLine) = some n then { d.inputs[n] with role := .none }
          else d.inputs[n]) } := by
  have h := defineWatch_changes w r d
  rw [defineWatch_watches, sourcePhase_forgetWatch, eq_ofFn_of_getElem (defineWatch_inputs_getElem w r d)] at h
  exact h

theorem checkinLineTaken_iff {d : Device} {w : Fin 16} {r : WatchRec} :
    d.checkinLineTaken w r = true ↔
      ∃ n a, r.source = .line n a ∧ d.inputs[n].role ≠ .none ∧ d.inputs[n].role ≠ .checkin w := by
  unfold Device.checkinLineTaken
  cases r.source <;> simp

/-- A line without a role, or with this watch's own, is open to the definition (R68). -/
theorem not_checkinLineTaken {d : Device} {w : Fin 16} {r : WatchRec}
    (h : ∀ n a, r.source = .line n a → d.inputs[n].role = .none ∨ d.inputs[n].role = .checkin w) :
    ¬d.checkinLineTaken w r = true := by
  rw [checkinLineTaken_iff]
  rintro ⟨n, a, hsrc, hnone, hcheckin⟩
  exact (h n a hsrc).elim hnone hcheckin

theorem watchActive_iff {d : Device} {w : Fin 16} :
    d.watchActive w = true ↔ ∃ old, d.watches[w] = some old ∧ old.state ≠ .dormant := by
  unfold Device.watchActive
  cases d.watches[w] with
  | none => simp
  | some old => cases hs : old.state <;> simp [WatchState.active, hs]

/-- WATCH_DEFINE of a definable record for a watch 1 to 15, by the two checks that follow its arguments (R68). -/
theorem takeWatchDefine_definable {r : WatchRec} (h : r.definable) {w : Fin 16} (hw : w ≠ 0) (d : Device) :
    takeWatchDefine (r.definePayload w) d =
      if d.checkinLineTaken w r then (d, [0x14, byte w])
      else if d.watchActive w then (d, [0x18, byte w])
      else (d.defineWatch w r, [0x00, byte w, 0x01, (d.sourcePhase r.source).code]) := by
  have hecho (st : Status) : refuseEcho st (r.definePayload w) d = (d, [st.code, byte w]) := by
    obtain ⟨source, line, level, hp, -⟩ := definePayload_split w r
    rw [hp]
    rfl
  rw [takeWatchDefine, if_neg (not_not.2 (length_watchPayload w r)), idAt_watchPayload, parseWatch_definePayload h w]
  dsimp only
  rw [if_neg hw, hecho, hecho]
  rfl

/-! ### WATCH_START -/

/-- A DORMANT watch with a period comes into supervision, due one period from now (R70). -/
theorem takeWatchStart_dormant {d : Device} {w : Fin 16} {r : WatchRec} (h : d.watches[w] = some r)
    (hs : r.state = .dormant) (hnow : d.elapsed < 281474976710655) (hperiod : 0 < r.period) :
    takeWatchStart [byte w] d =
      (d.startWatch w r, [0x00, byte w, 0x02, (d.sourcePhase r.source).code] ++
        beBytes 6 (min (d.elapsed + r.period) 281474976710655)) := by
  have hdue : (d.startWatch w r).dueOf (.watch w) = some (min (d.elapsed + r.period) 281474976710655) := by
    have hlater := dueOf_insertEntry_later (d := d.setWatch w (some { r with
      state := .running, lastRenewal := some d.elapsed, recovery := 0, phase := d.sourcePhase r.source }))
      (lt_clipDue_add hperiod hnow) (.watch w) none
    rw [clipDue_natCast, Int.toNat_natCast] at hlater
    push_cast at hlater
    exact hlater
  rw [takeWatchStart, withWatch_defined h, if_pos hs]
  dsimp only
  rw [hdue]
  rfl

/-- Settles O25: the payload is read back and the definition stored field by field; a start inserts the watch's entry. -/
theorem watchDefineAndStart : Obligations.WatchDefineAndStart := by
  constructor
  · intro s tag w r hready hr hw hdormant hline phase oldInput
    have hidle : ¬s.toDevice.watchActive w = true := by
      rw [watchActive_iff]
      rintro ⟨old, hold, hactive⟩
      exact hactive (hdormant old hold)
    have htake := takeWatchDefine_definable hr hw s.toDevice
    rw [if_neg (not_checkinLineTaken hline), if_neg hidle, defineWatch_fields] at htake
    exact exec_taken hready .watchDefine tag htake
  · intro s tag w r hready hr hs hnow hperiod phase
    exact exec_taken hready .watchStart tag (takeWatchStart_dormant hr hs hnow hperiod)

end Sys2Proof.Machine
end

section
/-! WATCH_RETUNE: its two forms, and what it stores where it renews (R79 to R81, R106). -/

namespace Sys2Proof.Machine

/-! ### The form of watches 1 to 15 -/

section Timed

variable {period grace minInterval settle : Nat} {holdSet : Byte} {w : Fin 16}

theorem takeWatchRetune_badId {id : Byte} (h : 15 < id.toNat) (d : Device) :
    takeWatchRetune (id :: timingBytes period grace minInterval settle holdSet) d = (d, [0x12, id]) := by
  have hid : idAt 16 (id :: timingBytes period grace minInterval settle holdSet) 0 = none :=
    idAt_none (by rw [byteAt_cons_zero]; omega)
  have hzero : byteAt (id :: timingBytes period grace minInterval settle holdSet) 0 ≠ 0 := by
    rw [byteAt_cons_zero]
    omega
  rw [takeWatchRetune, if_neg (by simp), if_neg hzero, if_neg (by simp [length_timingBytes]), hid]
  rfl

/-- WATCH_RETUNE of a watch 1 to 15, with its times read back (R80): range, existence, source, then state. -/
theorem takeWatchRetune_timing (hw : w ≠ 0) (hf : FitsFields period grace minInterval settle) (d : Device) :
    takeWatchRetune (byte w :: timingBytes period grace minInterval settle holdSet) d =
      if timingInRange period grace minInterval settle then
        match d.watches[w] with
        | none => (d, [0x13, byte w])
        | some r =>
          match r.source with
          | .line _ _ => (d, [0x17, byte w])
          | .link =>
            retuneState (byte w :: timingBytes period grace minInterval settle holdSet) d r.state
              (checkinAnswer w (d.confirm w r (WatchRec.retuned period grace minInterval settle holdSet)))
      else (d, [0x12, byte w]) := by
  rw [takeWatchRetune, if_neg (by simp), if_neg (byteAt_id_ne_zero hw _), if_neg (by simp [length_timingBytes]),
    idAt_byte_fin16]
  dsimp only
  simp only [fieldAt_cons_succ, byteAt_cons_succ, byteAt_holdSet, byte_toNat, fieldAt_timing_period holdSet hf,
    fieldAt_timing_grace holdSet hf, fieldAt_timing_minInterval holdSet hf, fieldAt_timing_settle holdSet hf]
  rfl

end Timed

/-! ### The form of watch 0 -/

/-- The record that a retune of watch 0 stores (R81). -/
def WatchRec.linkRetuned (code : Fin 4) (holdSet : Byte) (r : WatchRec) : WatchRec :=
  { r with period := linkPeriod code, grace := linkPeriod code, holdSet := holdSet }

/-- Watch 0's own fields are stored where the retune is a renewal (R81, R106). -/
def storeLink (code : Fin 4) (width : Nat) (res : Device × Judgement) : Device × Judgement :=
  match res.2 with
  | .ok => ({ res.1 with linkWatch := { res.1.linkWatch with periodCode := code, rstoWidth := width } }, .ok)
  | .outOfStep => res
  | .early => res

theorem storeLink_of_not_ok {j : Judgement} (h : j ≠ .ok) (code : Fin 4) (width : Nat) (d : Device) :
    storeLink code width (d, j) = (d, j) := by
  cases j with
  | ok => exact absurd rfl h
  | _ => rfl

/-- A period code in range names a period (Table 6-2). -/
theorem exists_periodCode {code : Byte} (h : code.toNat ≤ 3) : ∃ c : Fin 4, code = byte c :=
  ⟨⟨code.toNat, by omega⟩, (byte_toNat code).symm⟩

theorem linkPeriod_getElem? : ∀ code : Fin 4, [250, 1000, 4000, 16000][code.val]? = some (linkPeriod code) := by
  decide

section Link

variable {code : Fin 4} {holdSet width : Byte} {d : Device}

/-- A first byte of 0 selects the form of watch 0 (R191). -/
theorem takeWatchRetune_zero (p : List Byte) (d : Device) :
    takeWatchRetune (0x00 :: p) d = takeRetuneLink (0x00 :: p) d := rfl

theorem idAt_periodCode (id : Byte) (code : Fin 4) (p : List Byte) : idAt 4 (id :: byte code :: p) 1 = some code := by
  simp [idAt, toNat_byte (Nat.lt_of_lt_of_le code.isLt (by decide : 4 ≤ 256))]

theorem takeWatchRetune_link_badArg {code : Byte} (h : 3 < code.toNat ∨ width.toNat < 10 ∨ 250 < width.toNat) :
    takeWatchRetune [0x00, code, holdSet, width] d = (d, [0x12, 0x00]) := by
  rw [takeWatchRetune_zero, takeRetuneLink, if_neg (by simp)]
  rcases Nat.lt_or_ge 3 code.toNat with hcode | hcode
  · have hid : idAt 4 [0x00, code, holdSet, width] 1 = none := idAt_none hcode
    rw [hid]
    rfl
  · have hwidth : ¬(10 ≤ width.toNat ∧ width.toNat ≤ 250) := by omega
    obtain ⟨c, rfl⟩ := exists_periodCode hcode
    rw [idAt_periodCode]
    exact if_neg hwidth

/-- WATCH_RETUNE of watch 0 with its arguments in range (R81). -/
theorem takeWatchRetune_link {r : WatchRec} (h : d.watches[(0 : Fin 16)] = some r) (hmin : 10 ≤ width.toNat)
    (hmax : width.toNat ≤ 250) :
    takeWatchRetune [0x00, byte code, holdSet, width] d =
      retuneState [0x00, byte code, holdSet, width] d r.state
        (checkinAnswer 0 (storeLink code width.toNat (d.confirm 0 r (WatchRec.linkRetuned code holdSet)))) := by
  have hstore : (fun r : WatchRec => { r with
      period := linkPeriod code, grace := linkPeriod code, holdSet := byte (byteAt [0x00, byte code, holdSet, width] 2) }) =
      WatchRec.linkRetuned code holdSet := by
    funext r
    rw [byteAt_cons_succ, byteAt_cons_succ, byteAt_cons_zero, byte_toNat]
    rfl
  rw [takeWatchRetune_zero, takeRetuneLink, if_neg (by simp), idAt_periodCode]
  dsimp only
  rw [if_pos (by exact ⟨hmin, hmax⟩), h]
  dsimp only
  rw [hstore, storeLink]
  cases hj : (d.confirm 0 r (WatchRec.linkRetuned code holdSet)).2 <;> rfl

end Link

/-! ### A retune as a confirm form -/

section Confirm

variable {d d' : Device} {w : Fin 16} {r : WatchRec} {p : List Byte}

theorem retuneState_active (hs : r.state = .running ∨ r.state = .warn) (act : Taken) :
    retuneState p d r.state act = act := by
  rcases hs with hs | hs <;> rw [hs] <;> rfl

theorem takeWatchRetune_timing_link (h : d.watches[w] = some r) (hsrc : r.source = .link)
    (hs : r.state = .running ∨ r.state = .warn) (hw : w ≠ 0) {period grace minInterval settle : Nat} {holdSet : Byte}
    (hr : timingInRange period grace minInterval settle = true) :
    takeWatchRetune (byte w :: timingBytes period grace minInterval settle holdSet) d =
      checkinAnswer w (d.confirm w r (WatchRec.retuned period grace minInterval settle holdSet)) := by
  rw [takeWatchRetune_timing hw (fitsFields_of_inRange hr), if_pos hr, h]
  dsimp only
  rw [hsrc]
  exact retuneState_active hs _

/-- A payload of either form with its arguments in range. -/
def retuneForm (w : Fin 16) (p : List Byte) : Prop :=
  (w ≠ 0 ∧ ∃ (period grace minInterval settle : Nat) (holdSet : Byte), 10 ≤ period ∧ period ≤ 60000 ∧ 10 ≤ grace ∧
    grace ≤ 60000 ∧ minInterval < period ∧ settle ≤ 10000 ∧
    p = byte w :: timingBytes period grace minInterval settle holdSet) ∨
  (w = 0 ∧ ∃ code holdSet width : Byte, code.toNat ≤ 3 ∧ 10 ≤ width.toNat ∧ width.toNat ≤ 250 ∧
    p = [0x00, code, holdSet, width])

/-- A retune that is no renewal, whatever it would store, does what the phase rule does (R79, R106). -/
theorem takeWatchRetune_of_not_ok (h : d.watches[w] = some r) (hsrc : r.source = .link)
    (hs : r.state = .running ∨ r.state = .warn) (hp : retuneForm w p) {j : Judgement} (hj : j ≠ .ok)
    (hc : ∀ store, d.confirm w r store = (d', j)) : takeWatchRetune p d = (d', j.status.code :: d'.reported w) := by
  rcases hp with ⟨hw, period, grace, minInterval, settle, holdSet, h1, h2, h3, h4, h5, h6, rfl⟩ |
    ⟨rfl, code, holdSet, width, hcode, hmin, hmax, rfl⟩
  · rw [takeWatchRetune_timing_link h hsrc hs hw (timingInRange_iff.2 ⟨h1, h2, h3, h4, h5, h6⟩), hc, checkinAnswer_eq]
  · obtain ⟨c, rfl⟩ := exists_periodCode hcode
    rw [takeWatchRetune_link h hmin hmax, retuneState_active hs, hc, storeLink_of_not_ok hj, checkinAnswer_eq]

/-- A renewal of a RUNNING or WARN watch: RUNNING, its entry one period from now, from WARN with a notice (R86, R89). -/
theorem renew_active (hs : r.state = .running ∨ r.state = .warn) :
    d.renew w r =
      let d' := (d.setWatch w (some { r with
        state := .running, lastRenewal := some d.elapsed, renewals := min (r.renewals + 1) 65535 })).insertEntry
          (.watch w) (d.elapsed + r.period) none
      if r.state = .warn then d'.notify (.watchRecovered w) else d' := by
  rcases hs with hs | hs
  · simp only [renew_running hs, hs, reduceCtorEq, if_false]
  · simp only [renew_warn hs, hs, if_true]

end Confirm

/-- Settles O30: a retune that is no renewal leaves what the confirm form leaves, whatever it would store; one that is
stores before the renewal inserts the deadline. -/
theorem watchRetuneStores : Obligations.WatchRetuneStores := by
  constructor
  · intro s tag w r p hready hr hsrc hs hp
    have hactive : r.state ≠ .dormant := by
      rcases hs with hs | hs <;> simp [hs]
    constructor
    · intro hph d
      refine exec_taken hready .watchRetune tag (takeWatchRetune_of_not_ok (j := .outOfStep) hr hsrc hs hp nofun ?_)
      intro store
      rw [confirm_opened hph, movePhase_link hsrc, outOfStep_counts (by rcases hs with hs | hs <;> simp [hs])]
      rfl
    · intro l hph hlast hearly
      exact ⟨_, _, exec_taken hready .checkConf tag (takeCheckConf_early hr hsrc hactive hph hlast hearly rfl),
        exec_taken hready .watchRetune tag (takeWatchRetune_of_not_ok (j := .early) hr hsrc hs hp nofun fun store => by
          rw [confirm_early hph hlast hearly, movePhase_link hsrc])⟩
  · intro s tag w r hready hr hsrc hph hlate hs renewed after
    constructor
    · intro period grace minInterval settle holdSet hw h1 h2 h3 h4 h5 h6 d
      have htake := takeWatchRetune_timing_link (holdSet := holdSet) hr hsrc hs hw
        (timingInRange_iff.2 ⟨h1, h2, h3, h4, h5, h6⟩)
      rw [confirm_renews hph hlate, movePhase_link hsrc, checkinAnswer_eq, renew_active (by exact hs)] at htake
      exact exec_taken hready .watchRetune tag htake
    · intro code period holdSet width hw hperiod hmin hmax d
      subst hw
      obtain rfl : linkPeriod code = period := Option.some.inj ((linkPeriod_getElem? code).symm.trans hperiod)
      have htake := takeWatchRetune_link (code := code) (holdSet := holdSet) hr hmin hmax
      have hstored : storeLink code width.toNat
          (s.toDevice.confirm 0 r (WatchRec.linkRetuned code holdSet)) = (d, .ok) := by
        rw [confirm_renews hph hlate, movePhase_link hsrc, renew_active (by exact hs)]
        unfold d after
        rcases hs with hs | hs <;> simp only [storeLink, WatchRec.linkRetuned, hs] <;> rfl
      rw [retuneState_active hs, hstored, checkinAnswer_eq] at htake
      exact exec_taken hready .watchRetune tag htake

end Sys2Proof.Machine
end

section
/-! What the watch requests refuse (R67, R68, R70, R71, R80 to R82, R84, R95, R96, R179, R188). -/

namespace Sys2Proof.Machine

/-! ### Arguments of a definition out of range -/

section Define

variable {p : List Byte}

theorem levelOfCode_none {k : Nat} (h : 1 < k) : levelOfCode k = none := by
  obtain ⟨n, rfl⟩ := Nat.exists_eq_add_of_lt h
  rw [show 1 + n + 1 = n + 2 by omega]
  rfl

theorem parseWatchSource_none_of_code (h : 1 < byteAt p 1) : parseWatchSource p = none := by
  obtain ⟨n, hn⟩ := Nat.exists_eq_add_of_lt h
  rw [show 1 + n + 1 = n + 2 by omega] at hn
  rw [parseWatchSource, hn]
  rfl

theorem parseWatchSource_none_of_line (hsrc : byteAt p 1 = 1) (h : 7 < byteAt p 2 ∨ 1 < byteAt p 3) :
    parseWatchSource p = none := by
  rw [parseWatchSource, hsrc]
  rcases h with h | h
  · simp [idAt_none h]
  · simp [levelOfCode_none h]

theorem parseWatch_none_of_source (h : parseWatchSource p = none) : parseWatch p = none := by
  rw [parseWatch, h]
  exact ite_self _

/-- A definition whose id is watch 0's or out of range, or whose arguments are not read (R67). -/
theorem takeWatchDefine_badArg (hlen : p.length = 13) (d : Device)
    (h : ∀ w, idAt 16 p 0 = some w → w = 0 ∨ parseWatch p = none) : takeWatchDefine p d = (d, 0x12 :: p.take 1) := by
  rw [takeWatchDefine, if_neg (not_not.2 hlen)]
  cases hid : idAt 16 p 0 with
  | none => rfl
  | some w =>
    cases hp : parseWatch p with
    | none => rfl
    | some r => exact if_pos ((h w hid).resolve_right (by simp [hp]))

end Define

/-- Times out of range are what the range check refuses (R67, R80). -/
theorem timingInRange_eq_false {period grace minInterval settle : Nat}
    (h : period < 10 ∨ 60000 < period ∨ grace < 10 ∨ 60000 < grace ∨ period ≤ minInterval ∨ 10000 < settle) :
    timingInRange period grace minInterval settle = false := by
  rw [Bool.eq_false_iff, Ne, timingInRange_iff]
  omega

/-- An id up to 15 names a watch. -/
theorem exists_watchId {id : Byte} (h : id.toNat ≤ 15) : ∃ w : Fin 16, id = byte w :=
  ⟨⟨id.toNat, by omega⟩, (byte_toNat id).symm⟩

theorem ne_zero_of_byte {w : Fin 16} (h : (byte w : Byte) ≠ 0) : w ≠ 0 := fun hw => h (hw ▸ rfl)

/-- The conditions of R67 and R188 under which the arguments of a WATCH_DEFINE are refused. -/
theorem takeWatchDefine_outside {id source line level holdSet : Byte} {period grace minInterval settle : Nat}
    (hf : FitsFields period grace minInterval settle) (d : Device)
    (h : id = 0 ∨ 15 < id.toNat ∨ 1 < source.toNat ∨ (source = 1 ∧ (7 < line.toNat ∨ 1 < level.toNat)) ∨
      timingInRange period grace minInterval settle = false) :
    takeWatchDefine ([id, source, line, level] ++ timingBytes period grace minInterval settle holdSet) d =
      (d, [0x12, id]) := by
  refine takeWatchDefine_badArg rfl d fun w hid => ?_
  rcases h with rfl | hrange | hcode | ⟨rfl, hline⟩ | htimes
  · exact .inl (Option.some.inj hid).symm
  · rw [idAt_none hrange] at hid
    cases hid
  · exact .inr (parseWatch_none_of_source (parseWatchSource_none_of_code hcode))
  · exact .inr (parseWatch_none_of_source (parseWatchSource_none_of_line rfl hline))
  · exact .inr ((parseWatch_timing hf).trans (if_neg (by simp [htimes])))

/-! ### The one-byte requests -/

section OneByte

variable {d : Device} {w : Fin 16} {r : WatchRec}

/-- The one-byte watch requests but WATCH_RETIRE share their checks of length, id and existence for every id. -/
theorem takeRequest_withWatch {q : Request}
    (hq : q ∈ [Request.watchStart, .checkPrep, .checkConf, .watchRelease, .watchQuery]) (p : List Byte) (d : Device) :
    ∃ act, takeRequest q p d = withWatch p d act := by
  simp only [List.mem_cons, List.not_mem_nil, or_false] at hq
  rcases hq with rfl | rfl | rfl | rfl | rfl <;> exact ⟨_, rfl⟩

/-- WATCH_RETIRE joins them for every id but watch 0's (R82). -/
theorem takeRequest_withWatch_nonzero {q : Request}
    (hq : q ∈ [Request.watchStart, .checkPrep, .checkConf, .watchRetire, .watchRelease, .watchQuery]) {id : Byte}
    (hid : id.toNat ≠ 0) (d : Device) : ∃ act, takeRequest q [id] d = withWatch [id] d act := by
  by_cases h : q = .watchRetire
  · subst h
    exact takeWatchRetire_nonzero hid d
  · refine takeRequest_withWatch ?_ [id] d
    simpa [h] using hq

theorem takeWatchStart_refused (h : d.watches[w] = some r) (hs : r.state ≠ .dormant) :
    takeWatchStart [byte w] d = (d, [0x18, byte w]) := by
  rw [takeWatchStart, withWatch_defined h, if_neg hs]
  rfl

/-- The host may not check in for a LINE source (R71). -/
theorem withLinkCheckin_line (h : d.watches[w] = some r) (hsrc : r.source ≠ .link)
    (act : Fin 16 → WatchRec → Taken) : withLinkCheckin [byte w] d act = (d, [0x17, byte w]) := by
  rw [withLinkCheckin, withWatch_defined h]
  cases hline : r.source with
  | link => exact absurd hline hsrc
  | line n a => rfl

theorem withLinkCheckin_dormant (h : d.watches[w] = some r) (hsrc : r.source = .link) (hs : r.state = .dormant)
    (act : Fin 16 → WatchRec → Taken) : withLinkCheckin [byte w] d act = (d, [0x18, byte w]) := by
  rw [withLinkCheckin, withWatch_defined h, hsrc, hs]
  rfl

theorem takeWatchRelease_refused (h : d.watches[w] = some r) (hs : r.state ≠ .tripped) :
    takeWatchRelease [byte w] d = (d, [0x18, byte w]) := by
  rw [takeWatchRelease, withWatch_defined h, if_pos hs]
  rfl

/-- Watch 0 is never retired (R82). -/
theorem takeWatchRetire_zero (d : Device) : takeWatchRetire [0x00] d = (d, [0x12, 0x00]) := if_pos ⟨rfl, rfl⟩

theorem takeWatchRetire_refused (h : d.watches[w] = some r) (hw : w ≠ 0)
    (hs : r.state = .tripped ∨ r.state = .releasing) : takeWatchRetire [byte w] d = (d, [0x18, byte w]) := by
  rw [takeWatchRetire_defined h hw]
  rcases hs with hs | hs <;> rw [hs]

/-! ### WATCH_RETUNE -/

theorem retuneState_refused {st : WatchState} (hs : st = .dormant ∨ st = .tripped ∨ st = .releasing) (p : List Byte)
    (d : Device) (act : Taken) : retuneState p d st act = (d, 0x18 :: p.take 1) := by
  rcases hs with rfl | rfl | rfl <;> rfl

section Timed

variable {period grace minInterval settle : Nat} {holdSet : Byte}

/-- A retune with its id or a time out of range (R80). -/
theorem takeWatchRetune_outside {id : Byte} (hid : id ≠ 0) (hf : FitsFields period grace minInterval settle)
    (h : 15 < id.toNat ∨ timingInRange period grace minInterval settle = false) (d : Device) :
    takeWatchRetune (id :: timingBytes period grace minInterval settle holdSet) d = (d, [0x12, id]) := by
  rcases Nat.lt_or_ge 15 id.toNat with hrange | hrange
  · exact takeWatchRetune_badId hrange d
  · obtain ⟨w, rfl⟩ := exists_watchId hrange
    rw [takeWatchRetune_timing (ne_zero_of_byte hid) hf, if_neg (by simp [h.resolve_left (Nat.not_lt.2 hrange)])]

variable (hr : timingInRange period grace minInterval settle = true) (hw : w ≠ 0)
include hr hw

theorem takeWatchRetune_free (h : d.watches[w] = none) :
    takeWatchRetune (byte w :: timingBytes period grace minInterval settle holdSet) d = (d, [0x13, byte w]) := by
  rw [takeWatchRetune_timing hw (fitsFields_of_inRange hr), if_pos hr, h]

theorem takeWatchRetune_line (h : d.watches[w] = some r) (hsrc : r.source ≠ .link) :
    takeWatchRetune (byte w :: timingBytes period grace minInterval settle holdSet) d = (d, [0x17, byte w]) := by
  rw [takeWatchRetune_timing hw (fitsFields_of_inRange hr), if_pos hr, h]
  dsimp only
  cases hline : r.source with
  | link => exact absurd hline hsrc
  | line n a => rfl

theorem takeWatchRetune_refused (h : d.watches[w] = some r) (hsrc : r.source = .link)
    (hs : r.state = .dormant ∨ r.state = .tripped ∨ r.state = .releasing) :
    takeWatchRetune (byte w :: timingBytes period grace minInterval settle holdSet) d = (d, [0x18, byte w]) := by
  rw [takeWatchRetune_timing hw (fitsFields_of_inRange hr), if_pos hr, h]
  dsimp only
  rw [hsrc]
  exact retuneState_refused hs _ d _

end Timed

end OneByte

/-- Settles O26: each request's checks in their order, by id, arguments, existence, claim, source and state. -/
theorem watchRequestsRefused : Obligations.WatchRequestsRefused := by
  intro s tag id hready refused
  have refuse {q : Request} {p : List Byte} {st : Byte} (h : takeRequest q p s.toDevice = (s.toDevice, st :: p.take 1)) :
      refused q p st := exec_taken hready q tag h
  refine ⟨fun hid q hq => ?_, ?_, ?_, fun code holdSet width => ⟨fun h => ?_, fun hcode hmin hmax r hr hs => ?_⟩,
    fun w hid => ?_, fun w hid hw => ?_⟩
  · obtain ⟨act, hact⟩ := takeRequest_withWatch_nonzero hq (id := id) (by omega) s.toDevice
    exact refuse (hact.trans (withWatch_badId hid _ _))
  · exact refuse (takeWatchRetire_zero s.toDevice)
  · intro period grace minInterval settle source line level holdSet h1 h2 h3 h4 outside timing
    have hf : FitsFields period grace minInterval settle := ⟨h1, h2, h3, h4⟩
    refine ⟨fun h => ?_, fun hid => ⟨fun h => ?_, fun hin w hw => ?_⟩⟩
    · refine refuse (takeWatchDefine_outside hf s.toDevice ?_)
      exact h.imp_right (Or.imp_right (Or.imp_right (Or.imp_right timingInRange_eq_false)))
    · exact refuse (takeWatchRetune_outside hid hf (h.imp_right timingInRange_eq_false) s.toDevice)
    · subst hw
      have hw := ne_zero_of_byte hid
      have hr : timingInRange period grace minInterval settle = true := timingInRange_iff.2 (by omega)
      exact ⟨fun hfree => refuse (takeWatchRetune_free hr hw hfree), fun r h =>
        ⟨fun hsrc => refuse (takeWatchRetune_line hr hw h hsrc),
          fun hsrc hs => refuse (takeWatchRetune_refused hr hw h hsrc hs)⟩⟩
  · exact refuse (takeWatchRetune_link_badArg h)
  · obtain ⟨c, rfl⟩ := exists_periodCode hcode
    exact refuse ((takeWatchRetune_link hr hmin hmax).trans (retuneState_refused (.inr hs) _ _ _))
  · subst hid
    refine ⟨fun hfree q hq => ?_, fun r hr => ⟨fun hs => refuse (takeWatchStart_refused hr hs),
      fun hsrc => ⟨refuse (withLinkCheckin_line hr hsrc _), refuse (withLinkCheckin_line hr hsrc _)⟩,
      fun hsrc hs => ⟨refuse (withLinkCheckin_dormant hr hsrc hs _), refuse (withLinkCheckin_dormant hr hsrc hs _)⟩,
      fun hs => refuse (takeWatchRelease_refused hr hs)⟩⟩
    obtain ⟨act, hact⟩ := takeRequest_withWatch hq [byte w] s.toDevice
    exact refuse (hact.trans (withWatch_free hfree _))
  · subst hid
    refine ⟨fun hfree => ?_, fun r n a hr hsrc hnone hcheckin => ?_, fun r old hr hline hold hactive => ?_,
      fun r hr hs => refuse (takeWatchRetire_refused hr hw hs)⟩
    · obtain ⟨act, hact⟩ := takeWatchRetire_nonzero (byteAt_id_ne_zero hw []) s.toDevice
      exact refuse (hact.trans (withWatch_free hfree _))
    · have htake := takeWatchDefine_definable hr hw s.toDevice
      rw [if_pos (checkinLineTaken_iff.2 ⟨n, a, hsrc, hnone, hcheckin⟩)] at htake
      exact refuse htake
    · have htake := takeWatchDefine_definable hr hw s.toDevice
      rw [if_neg (not_checkinLineTaken hline), if_pos (watchActive_iff.2 ⟨old, hold, hactive⟩)] at htake
      exact refuse htake

end Sys2Proof.Machine
end

section
/-! Who holds which line (R92): the watches' records and the lines' holders taken together, what each operation on the
output unit and on timers leaves of them, and the rules by which a change of them keeps the invariant. -/

namespace Sys2Proof.Machine

/-! ### Records and holders -/

/-- What R92 speaks of: the records of the watches, and which watch is a holder of which line. -/
@[ext] structure Holdings where
  record : Fin 16 → Option WatchRec
  holder : Fin 8 → Fin 16 → Bool

def Device.holdings (d : Device) : Holdings where
  record := fun w => d.watches[w]
  holder := fun n w => d.lines[n].watchHolders.getLsbD w

/-- A watch with this record is to be a holder of line n (R92). -/
def holdsLine (n : Fin 8) : Option WatchRec → Bool
  | some r => r.state.holds && inSet r.holdSet n
  | none => false

@[simp] theorem holdsLine_some (n : Fin 8) (r : WatchRec) :
    holdsLine n (some r) = (r.state.holds && inSet r.holdSet n) := rfl

@[simp] theorem holdsLine_none (n : Fin 8) : holdsLine n none = false := rfl

def Holdings.kept (H : Holdings) : Prop := ∀ n w, H.holder n w = holdsLine n (H.record w)

theorem holdersKept_iff (d : Device) : d.holdersKept ↔ d.holdings.kept := by
  refine forall_congr' fun n => forall_congr' fun w => ?_
  show _ ↔ d.lines[n].watchHolders.getLsbD w = holdsLine n d.watches[w]
  cases d.watches[w] with
  | none => exact Iff.rfl
  | some r =>
    dsimp only [holdsLine]
    cases r.state <;> exact Iff.rfl

/-- A new record of watch w. -/
def Holdings.store (w : Fin 16) (r : Option WatchRec) (H : Holdings) : Holdings :=
  { H with record := fun v => if v = w then r else H.record v }

/-- Watch w becomes a holder of each line of the set. -/
def Holdings.hold (w : Fin 16) (set : BitVec 8) (H : Holdings) : Holdings :=
  { H with holder := fun n v => H.holder n v || (decide (v = w) && inSet set n) }

/-- Watch w stops being a holder of each line of the set. -/
def Holdings.drop (w : Fin 16) (set : BitVec 8) (H : Holdings) : Holdings :=
  { H with holder := fun n v => H.holder n v && !(decide (v = w) && inSet set n) }

section
variable {H : Holdings} (h : H.kept) {w : Fin 16} {r : WatchRec}
include h

/-- A new record that holds the lines the old one held. -/
theorem Holdings.kept.store {o : Option WatchRec} (ho : ∀ n, holdsLine n o = holdsLine n (H.record w)) :
    (H.store w o).kept := fun n v => by
  by_cases hv : v = w
  · subst hv
    simp [Holdings.store, ho, h n v]
  · simp [Holdings.store, hv, h n v]

/-- A watch that held no line comes to hold its hold set (R91, R92). -/
theorem Holdings.kept.store_hold (hfree : ∀ n, holdsLine n (H.record w) = false) (hs : r.state.holds = true) :
    ((H.store w (some r)).hold w r.holdSet).kept := fun n v => by
  by_cases hv : v = w
  · subst hv
    simp [Holdings.store, Holdings.hold, h n v, hfree, hs]
  · simp [Holdings.store, Holdings.hold, hv, h n v]

/-- A watch that held lines of the set alone holds none any more (R92, R100). -/
theorem Holdings.kept.store_drop {set : BitVec 8} (hset : ∀ n, holdsLine n (H.record w) = true → inSet set n = true)
    (hs : r.state.holds = false) : ((H.store w (some r)).drop w set).kept := fun n v => by
  by_cases hv : v = w
  · subst hv
    simpa [Holdings.store, Holdings.drop, h n v, hs] using hset n
  · simp [Holdings.store, Holdings.drop, hv, h n v]

end

/-! ### Operations on the blocks -/

theorem getLsbD_watchBit (w v : Fin 16) : (watchBit w).getLsbD v = decide (v = w) := by
  revert w v
  decide

theorem holdings_congr {d d' : Device} (hw : d'.watches = d.watches) (hl : d'.lines = d.lines) :
    d'.holdings = d.holdings := by
  simp only [Device.holdings, hw, hl]

/-- The lines' other fields do not count. -/
theorem holdings_of_lines {d d' : Device} (hw : d'.watches = d.watches)
    (hl : ∀ n : Fin 8, d'.lines[n].watchHolders = d.lines[n].watchHolders) : d'.holdings = d.holdings := by
  simp only [Device.holdings, hw, hl]

section
variable (d : Device)

theorem setWatch_holdings (w : Fin 16) (r : Option WatchRec) :
    (d.setWatch w r).holdings = d.holdings.store w r := by
  refine Holdings.ext (funext fun v => ?_) rfl
  exact getElem_set_fin _ _ _ _

theorem addHolds_holdings (w : Fin 16) (set : BitVec 8) :
    (d.addHolds w set).holdings = d.holdings.hold w set := by
  refine Holdings.ext rfl (funext fun n => funext fun v => ?_)
  show (d.addHolds w set).lines[n].watchHolders.getLsbD v = (d.lines[n].watchHolders.getLsbD v || _)
  rw [Device.addHolds_line]
  cases inSet set n with
  | false => simp only [Bool.false_eq_true, if_false, Bool.and_false, Bool.or_false]
  | true => simp only [if_true, Bool.and_true, BitVec.getLsbD_or, getLsbD_watchBit]

theorem dropHolds_holdings (w : Fin 16) (set : BitVec 8) :
    (d.dropHolds w set).holdings = d.holdings.drop w set := by
  refine Holdings.ext rfl (funext fun n => funext fun v => ?_)
  show (d.dropHolds w set).lines[n].watchHolders.getLsbD v = (d.lines[n].watchHolders.getLsbD v && _)
  rw [Device.dropHolds_line]
  cases inSet set n with
  | false => simp only [Bool.false_eq_true, if_false, Bool.and_false, Bool.not_false, Bool.and_true]
  | true =>
    simp only [if_true, Bool.and_true, BitVec.getLsbD_and, BitVec.getLsbD_not, getLsbD_watchBit, Fin.is_lt, decide_true,
      Bool.true_and]

theorem setHostHold_holdings (held : Bool) (set : BitVec 8) : (d.setHostHold held set).holdings = d.holdings :=
  holdings_of_lines rfl fun n => by
    rw [Device.setHostHold_line]
    split <;> rfl

@[simp] theorem insertEntry_holdings (o : Owner) (due : Int) (wall : Option Nat) :
    (d.insertEntry o due wall).holdings = d.holdings := rfl

@[simp] theorem setTimer_holdings (t : Fin 24) (r : Option TimerRec) : (d.setTimer t r).holdings = d.holdings := rfl

theorem setLine_holdings {n : Fin 8} {l : LineRec} (h : l.watchHolders = d.lines[n].watchHolders) :
    (d.setLine n l).holdings = d.holdings :=
  holdings_of_lines rfl fun m => by
    rw [setLine_line]
    split
    · next hm => rw [h, hm]
    · rfl

@[simp] theorem restLine_holdings (n : Fin 8) : (d.restLine n).holdings = d.holdings :=
  setLine_holdings d (n := n) (l := { d.lines[n] with shadow := .rest, pulseEnd := none }) rfl

theorem applyEffect_holdings (n : Fin 8) (eff : Effect) : (d.applyEffect n eff).holdings = d.holdings := by
  rw [applyEffect_eq]
  cases eff <;> exact setLine_holdings d rfl

end

/-! ### Timers -/

section
variable (d : Device) (t : Fin 24) (r : TimerRec)

@[simp] theorem scheduleStart_holdings : (d.scheduleStart t r).holdings = d.holdings := by
  unfold Device.scheduleStart
  split <;> rfl

@[simp] theorem beginTimer_holdings : (d.beginTimer t r).holdings = d.holdings := scheduleStart_holdings _ t r

@[simp] theorem triggerTimer_holdings : (d.triggerTimer t).holdings = d.holdings := by
  unfold Device.triggerTimer
  split
  · rfl
  · split <;> simp

@[simp] theorem stopTimer_holdings : (d.stopTimer t r).holdings = d.holdings := by
  unfold Device.stopTimer
  dsimp only
  split
  · exact restLine_holdings _ _
  · rfl

@[simp] theorem continueTimer_holdings (due : Int) : (d.continueTimer t r due).holdings = d.holdings := by
  unfold Device.continueTimer
  split
  · rfl
  · split
    · dsimp only
      split <;> rfl
    all_goals rfl

@[simp] theorem outputStage_holdings : (d.outputStage r).holdings = d.holdings := by
  unfold Device.outputStage
  split
  · exact applyEffect_holdings d _ _
  · rfl

@[simp] theorem noticeStage_holdings (late : Bool) (missed : Nat) :
    (d.noticeStage t r late missed).holdings = d.holdings := by
  unfold Device.noticeStage
  split <;> rfl

@[simp] theorem triggerStage_holdings : (d.triggerStage r).holdings = d.holdings := by
  unfold Device.triggerStage
  split <;> simp

@[simp] theorem expiryStages_holdings (due : Int) (pastDue : Bool) :
    (d.expiryStages t r due pastDue).holdings = d.holdings := by
  simp [Device.expiryStages]

theorem foldl_holdings {β : Type} {f : Device → β → Device} (h : ∀ d b, (f d b).holdings = d.holdings) (l : List β)
    (d : Device) : (l.foldl f d).holdings = d.holdings :=
  List.foldlRecOn l f (motive := fun d' => d'.holdings = d.holdings) rfl fun d' hd' b _ => (h d' b).trans hd'

theorem takeCount_holdings {f : Device → Device} (hf : ∀ d, (f d).holdings = d.holdings) :
    (d.takeCount f t r).holdings = d.holdings := by
  unfold Device.takeCount
  dsimp only
  split
  · exact hf _
  · rfl

theorem offerCount_holdings {f : Device → Device} (hf : ∀ d, (f d).holdings = d.holdings) (parent : Fin 24) :
    (d.offerCount f parent t).holdings = d.holdings := by
  unfold Device.offerCount
  split
  · rfl
  · split
    · exact takeCount_holdings d t _ hf
    · rfl

@[simp] theorem expire_holdings (fuel : Nat) (due : Int) (pastDue : Bool) :
    (expire fuel t due pastDue d).holdings = d.holdings := by
  induction fuel generalizing t due pastDue d with
  | zero => rfl
  | succ fuel ih =>
    unfold expire
    split
    · rfl
    · exact (foldl_holdings (fun a c => offerCount_holdings a c (fun d => ih d c d.elapsed false) t) _ _).trans
        (expiryStages_holdings d t _ due pastDue)

@[simp] theorem drain_holdings (fuel : Nat) : (drain fuel d).holdings = d.holdings := by
  induction fuel generalizing d with
  | zero => rfl
  | succ fuel ih =>
    rcases drain_succ_cases fuel d with ⟨e, t, -, -, h⟩ | h
    · rw [h, ih]
      exact expire_holdings _ t 24 e.due true
    · rw [h]

theorem drainPastDue_holdings : d.drainPastDue.holdings = d.holdings := drain_holdings d 24

theorem rekeyEntries_holdings : d.rekeyEntries.holdings = d.holdings :=
  foldl_holdings (f := fun acc (e : Entry) => acc.insertEntry e.owner e.due e.wall) (fun _ _ => rfl) _ _

theorem setWall_holdings (off : Int) : (d.setWall off).holdings = d.holdings :=
  (drainPastDue_holdings _).trans (rekeyEntries_holdings { d with wallOffset := off })

theorem pauseTimer_holdings : (d.pauseTimer t r).holdings = d.holdings := by
  unfold Device.pauseTimer
  split <;> rfl

theorem resumeTimer_holdings : (d.resumeTimer t r).holdings = d.holdings := by
  unfold Device.resumeTimer
  dsimp only
  split <;> rfl

theorem defineTimer_holdings : (d.defineTimer t r).holdings = d.holdings :=
  holdings_of_lines (defineTimer_watches t r d) fun n => by
    rw [defineTimer_lines_getElem]
    split
    · rfl
    · split <;> rfl

theorem releaseClaims_holdings : (d.releaseClaims r).holdings = d.holdings :=
  holdings_of_lines (releaseClaims_claimsOnly r d).watches fun n => by
    rw [releaseClaims_lines_getElem]
    split <;> rfl

theorem countEdge_holdings (level : Level) : (d.countEdge t level).holdings = d.holdings := by
  unfold Device.countEdge
  split
  · rfl
  · split
    · split
      · exact takeCount_holdings d t _ fun d => expire_holdings d t 24 d.elapsed false
      · rfl
    all_goals rfl

theorem stopEdge_holdings : (d.stopEdge t).holdings = d.holdings := by
  unfold Device.stopEdge
  split
  · rfl
  · split <;> simp

end

end Sys2Proof.Machine
end

section
/-! Watches and the lines they hold (R92): a watch becomes a holder as it trips, stops being one as its release
completes, and holds the same lines through every other rule and request (R80, R82, R91, R97 to R100). -/

namespace Sys2Proof.Machine

/-- The invariant of R92 goes on to hold. -/
abbrev Device.KeepsHolders (d d' : Device) : Prop := d.holdersKept → d'.holdersKept

theorem keepsHolders_of_holdings {d d' : Device} (h : d'.holdings = d.holdings) : d.KeepsHolders d' := fun hd => by
  rw [holdersKept_iff] at *
  rwa [h]

/-- Watch w holds the lines that the record r would have it hold. -/
def Device.HeldAs (w : Fin 16) (r : WatchRec) (d : Device) : Prop :=
  ∀ n, holdsLine n d.watches[w] = holdsLine n (some r)

section
variable {w : Fin 16} {r : WatchRec} {d : Device}

/-- A record by which the watch holds the same lines as before. -/
theorem heldAs_of_record {r₀ : WatchRec} (h : d.watches[w] = some r₀) (hs : r.state.holds = r₀.state.holds)
    (hset : r.holdSet = r₀.holdSet) : d.HeldAs w r := fun n => by
  rw [h, holdsLine_some, holdsLine_some, hs, hset]

/-- Between records in whose states a watch holds nothing, whatever their hold sets. -/
theorem heldAs_of_free {r₀ : WatchRec} (h : d.watches[w] = some r₀) (hs₀ : r₀.state.holds = false)
    (hs : r.state.holds = false) : d.HeldAs w r := fun n => by
  rw [h, holdsLine_some, holdsLine_some, hs, hs₀, Bool.false_and, Bool.false_and]

/-! ### The escalation rules -/

/-- A trip makes the watch a holder of its hold set (R91, R92). -/
theorem trip_holdings (w : Fin 16) (cause : Cause) (r : WatchRec) (d : Device) :
    (d.trip w cause r).holdings =
      (d.holdings.store w (some { r with state := .tripped, trips := addStop16 r.trips 1, recovery := 0 })).hold w
        r.holdSet := by
  rw [← setWatch_holdings, ← addHolds_holdings]
  unfold Device.trip Device.tripDeadline
  by_cases hw : w = 0
  · simp only [hw, if_true]
    rfl
  · simp only [hw, if_false]
    rfl

theorem retrip_holdings (r : WatchRec) (d : Device) :
    (d.retrip r).holdings = d.holdings.store 0 (some { r with trips := addStop16 r.trips 1, recovery := 0 }) := by
  rw [← setWatch_holdings]
  unfold Device.retrip
  dsimp only
  split <;> rfl

theorem abortRelease_holdings (w : Fin 16) (cause : Cause) (r : WatchRec) (d : Device) :
    (d.abortRelease w cause r).holdings = d.holdings.store w (some { r with state := .tripped, recovery := 0 }) := by
  rw [← setWatch_holdings]
  unfold Device.abortRelease
  dsimp only
  split <;> rfl

/-- The completion of a release drops the watch's holds (R100). -/
theorem completeRelease_holdings (w : Fin 16) (r : WatchRec) (d : Device) :
    (d.completeRelease w r).holdings =
      (d.holdings.store w (some { r with state := .running, recovery := 0, lastRenewal := some d.elapsed })).drop w
        r.holdSet := by
  rw [← setWatch_holdings, ← dropHolds_holdings]
  unfold Device.completeRelease
  dsimp only
  split <;> rfl

section
variable (h : d.HeldAs w r)
include h

theorem Device.HeldAs.congr {r' : WatchRec} (hs : r'.state.holds = r.state.holds) (hset : r'.holdSet = r.holdSet) :
    d.HeldAs w r' := fun n => by
  rw [h n, holdsLine_some, holdsLine_some, hs, hset]

/-- A new record by which the watch holds the same lines. -/
theorem Device.HeldAs.store_kept (hd : d.holdings.kept) : (d.holdings.store w (some r)).kept :=
  hd.store fun n => (h n).symm

theorem setWatch_keepsHolders : d.KeepsHolders (d.setWatch w (some r)) := fun hd => by
  rw [holdersKept_iff, setWatch_holdings]
  exact h.store_kept ((holdersKept_iff d).mp hd)

theorem enterWarn_keepsHolders (cause : Cause) (hs : r.state = .running) :
    d.KeepsHolders (d.enterWarn w cause r) :=
  setWatch_keepsHolders (h.congr (by rw [hs]; rfl) rfl)

theorem trip_keepsHolders (cause : Cause) (hs : r.state = .warn) : d.KeepsHolders (d.trip w cause r) := fun hd => by
  rw [holdersKept_iff, trip_holdings]
  exact ((holdersKept_iff d).mp hd).store_hold
    (r := { r with state := .tripped, trips := addStop16 r.trips 1, recovery := 0 })
    (fun n => (h n).trans (by rw [holdsLine_some, hs]; rfl)) rfl

theorem abortRelease_keepsHolders (cause : Cause) (hs : r.state = .releasing) :
    d.KeepsHolders (d.abortRelease w cause r) := fun hd => by
  rw [holdersKept_iff, abortRelease_holdings]
  exact (h.congr (r' := { r with state := .tripped, recovery := 0 }) (by rw [hs]; rfl) rfl).store_kept
    ((holdersKept_iff d).mp hd)

theorem completeRelease_keepsHolders : d.KeepsHolders (d.completeRelease w r) := fun hd => by
  rw [holdersKept_iff, completeRelease_holdings]
  refine ((holdersKept_iff d).mp hd).store_drop (fun n hn => ?_) rfl
  have hr : holdsLine n (some r) = true := (h n).symm.trans hn
  exact (Bool.and_eq_true_iff.mp hr).2

theorem renew_keepsHolders : d.KeepsHolders (d.renew w r) := by
  have hnew : d.HeldAs w (r.renewed d.elapsed) := h.congr rfl rfl
  unfold Device.renew
  dsimp only
  split
  · exact id
  · exact setWatch_keepsHolders hnew
  · next hs => exact setWatch_keepsHolders (hnew.congr (r' := { r.renewed d.elapsed with state := .running })
      (by rw [hs]; rfl) rfl)
  · have hset := setWatch_keepsHolders (hnew.congr
      (r' := { r.renewed d.elapsed with recovery := min ((r.renewed d.elapsed).recovery + 1) 2 }) rfl rfl)
    split
    · exact hset
    · exact hset
  · exact setWatch_keepsHolders hnew

theorem earlyCandidate_keepsHolders : d.KeepsHolders (d.earlyCandidate w r) := by
  have hnew : d.HeldAs w { r with earlyFaults := addStop16 r.earlyFaults 1 } := h.congr rfl rfl
  unfold Device.earlyCandidate
  dsimp only
  split
  · exact id
  · next hs => exact enterWarn_keepsHolders hnew .early hs
  · next hs => exact trip_keepsHolders hnew .early hs
  · exact setWatch_keepsHolders (hnew.congr rfl rfl)
  · next hs => exact abortRelease_keepsHolders hnew .early hs

theorem outOfStep_keepsHolders : d.KeepsHolders (d.outOfStep w r) := by
  have hnew : d.HeldAs w { r with outOfStep := addStop16 r.outOfStep 1 } := h.congr rfl rfl
  unfold Device.outOfStep
  dsimp only
  split
  · exact setWatch_keepsHolders hnew
  · exact setWatch_keepsHolders hnew
  · exact setWatch_keepsHolders hnew
  · exact setWatch_keepsHolders hnew
  · next hs => exact abortRelease_keepsHolders hnew .outOfStep hs

end

/-! ### Check-ins and hand-overs -/

section
variable (hr : d.watches[w] = some r)
include hr

theorem heldAs_movePhase (ph : Phase) : d.HeldAs w (r.movePhase ph) := by
  refine heldAs_of_record hr (by rw [(movePhase_sameTerms r ph).2]) ?_
  unfold WatchRec.movePhase
  split <;> rfl

theorem prepare_keepsHolders : d.KeepsHolders (d.prepare w r).1 := by
  unfold Device.prepare
  split
  · exact setWatch_keepsHolders (heldAs_movePhase hr _)
  · exact outOfStep_keepsHolders (heldAs_movePhase hr _)

theorem confirm_keepsHolders {store : WatchRec → WatchRec} (hstore : d.HeldAs w (store (r.movePhase .opened))) :
    d.KeepsHolders (d.confirm w r store).1 := by
  unfold Device.confirm
  split
  · exact outOfStep_keepsHolders (heldAs_movePhase hr _)
  · split
    · exact earlyCandidate_keepsHolders (heldAs_movePhase hr _)
    · exact renew_keepsHolders hstore

end

theorem watchEdge_keepsHolders (w : Fin 16) (level : Level) (d : Device) : d.KeepsHolders (d.watchEdge w level) := by
  unfold Device.watchEdge
  split
  · exact id
  · next r hr =>
    have hphase : ∀ ph, d.HeldAs w { r with phase := ph } := fun ph => heldAs_of_record hr rfl rfl
    split
    · exact id
    · split
      · exact setWatch_keepsHolders (hphase _)
      · split
        · exact setWatch_keepsHolders (hphase _)
        · split
          · exact earlyCandidate_keepsHolders (hphase _)
          · exact renew_keepsHolders (hphase _)

theorem watchDeadline_keepsHolders (w : Fin 16) (d : Device) : d.KeepsHolders (d.watchDeadline w) := by
  unfold Device.watchDeadline
  split
  · exact id
  · next r hr =>
    have hheld : d.HeldAs w r := heldAs_of_record hr rfl rfl
    split
    · exact id
    · next hs => exact enterWarn_keepsHolders hheld .expired hs
    · next hs => exact trip_keepsHolders hheld .expired hs
    · split
      · next hw =>
        subst hw
        intro hd
        rw [holdersKept_iff, retrip_holdings]
        exact (hheld.congr (r' := { r with trips := addStop16 r.trips 1, recovery := 0 }) rfl rfl).store_kept
          ((holdersKept_iff d).mp hd)
      · exact id
    · exact completeRelease_keepsHolders hheld

end

/-! ### Requests on watches -/

section
variable (p : List Byte) (d : Device)

theorem withWatch_keepsHolders {act : Fin 16 → WatchRec → Taken}
    (h : ∀ w r, d.watches[w] = some r → d.KeepsHolders (act w r).1) : d.KeepsHolders (withWatch p d act).1 := by
  unfold withWatch
  split
  · exact id
  · split
    · exact id
    · split
      · exact id
      · next hr => exact h _ _ hr

theorem withLinkCheckin_keepsHolders {act : Fin 16 → WatchRec → Taken}
    (h : ∀ w r, d.watches[w] = some r → d.KeepsHolders (act w r).1) :
    d.KeepsHolders (withLinkCheckin p d act).1 := by
  refine withWatch_keepsHolders p d fun w r hr => ?_
  split
  · exact id
  · exact id
  all_goals exact h w r hr

/-- A watch that is not active holds no line. -/
theorem holdsLine_of_not_active {d : Device} {w : Fin 16} (h : d.watchActive w = false) (n : Fin 8) :
    holdsLine n d.watches[w] = false := by
  unfold Device.watchActive at h
  cases hr : d.watches[w] with
  | none => rfl
  | some r =>
    have hactive : r.state.active = false := by rwa [hr] at h
    have hholds : r.state.holds = false := by
      revert hactive
      cases r.state <;> decide
    rw [holdsLine_some, hholds, Bool.false_and]

theorem forgetWatch_holdings (w : Fin 16) : (d.forgetWatch w).holdings = d.holdings :=
  holdings_congr (forgetWatch_sameSchedule w d).watches (forgetWatch_lines w d)

theorem defineWatch_keepsHolders {w : Fin 16} {r : WatchRec} (hs : r.state = .dormant) (ha : d.watchActive w = false) :
    d.KeepsHolders (d.defineWatch w r) := fun hd => by
  have hset := takeCheckin_sameSchedule w r
    ((d.forgetWatch w).setWatch w (some { r with phase := (d.forgetWatch w).sourcePhase r.source }))
  rw [holdersKept_iff, Device.defineWatch_eq, holdings_congr hset.watches (takeCheckin_lines w r _), setWatch_holdings,
    forgetWatch_holdings]
  refine ((holdersKept_iff d).mp hd).store fun n => ?_
  rw [holdsLine_some, hs]
  exact (holdsLine_of_not_active ha n).symm

theorem takeWatchDefine_keepsHolders : d.KeepsHolders (takeWatchDefine p d).1 := by
  unfold takeWatchDefine
  split
  · exact id
  · split
    · next hp =>
      split
      · exact id
      · split
        · exact id
        · split
          · exact id
          · next ha => exact defineWatch_keepsHolders d (parseWatch_dormant hp) (by simpa using ha)
    · exact id

theorem takeWatchStart_keepsHolders : d.KeepsHolders (takeWatchStart p d).1 := by
  refine withWatch_keepsHolders p d fun w r hr => ?_
  dsimp only
  split
  · next hs =>
    exact setWatch_keepsHolders (r := { r with
      state := .running, lastRenewal := some d.elapsed, recovery := 0, phase := d.sourcePhase r.source })
      (heldAs_of_record hr (by rw [hs]; rfl) rfl)
  · exact id

theorem takeCheckPrep_keepsHolders : d.KeepsHolders (takeCheckPrep p d).1 :=
  withLinkCheckin_keepsHolders p d fun _ _ hr => prepare_keepsHolders hr

theorem takeCheckConf_keepsHolders : d.KeepsHolders (takeCheckConf p d).1 :=
  withLinkCheckin_keepsHolders p d fun _ _ hr => confirm_keepsHolders hr (heldAs_movePhase hr _)

theorem retuneState_keepsHolders {st : WatchState} {act : Taken}
    (h : st = .running ∨ st = .warn → d.KeepsHolders act.1) : d.KeepsHolders (retuneState p d st act).1 := by
  unfold retuneState
  split
  · exact h (.inl rfl)
  · exact h (.inr rfl)
  all_goals exact id

theorem holds_eq_false {st : WatchState} (h : st = .running ∨ st = .warn) : st.holds = false := by
  rcases h with rfl | rfl <;> rfl

/-- A retune is taken where the watch holds nothing, and may give any hold set (R80, R81). -/
theorem confirm_retune_keepsHolders {d : Device} {w : Fin 16} {r : WatchRec} {store : WatchRec → WatchRec}
    (hr : d.watches[w] = some r) (hs : r.state = .running ∨ r.state = .warn)
    (hstore : ∀ r, (store r).state = r.state) : d.KeepsHolders (d.confirm w r store).1 :=
  confirm_keepsHolders hr (heldAs_of_free hr (holds_eq_false hs)
    (by rw [hstore, (movePhase_sameTerms r .opened).2]; exact holds_eq_false hs))

theorem takeRetuneLink_keepsHolders : d.KeepsHolders (takeRetuneLink p d).1 := by
  unfold takeRetuneLink
  split
  · exact id
  · split
    · exact id
    · next code _ =>
      split
      · split
        · exact id
        · next hr =>
          refine retuneState_keepsHolders p d fun hs => ?_
          have hc := confirm_retune_keepsHolders hr hs (store := fun r => { r with
            period := linkPeriod code, grace := linkPeriod code, holdSet := byte (byteAt p 2) }) fun _ => rfl
          dsimp only [checkinAnswer_fst]
          split
          · exact hc
          · exact hc
          · exact hc
      · exact id

theorem takeWatchRetune_keepsHolders : d.KeepsHolders (takeWatchRetune p d).1 := by
  unfold takeWatchRetune
  split
  · exact id
  · split
    · exact takeRetuneLink_keepsHolders p d
    · split
      · exact id
      · split
        · exact id
        · split
          · split
            · exact id
            · next hr =>
              split
              · exact id
              · exact retuneState_keepsHolders p d fun hs => confirm_retune_keepsHolders hr hs fun _ => rfl
          · exact id

/-- A watch that holds no line is freed (R82). -/
theorem freeWatch_keepsHolders {d : Device} {w : Fin 16} {r₀ : WatchRec} (h : d.watches[w] = some r₀)
    (hs : r₀.state.holds = false) (r : WatchRec) : d.KeepsHolders (d.freeWatch w r) := fun hd => by
  have hfree : (d.freeWatch w r).holdings = d.holdings.store w none := by
    unfold Device.freeWatch
    rw [setWatch_holdings, holdings_congr (releaseCheckin_claimsOnly r _).watches (releaseCheckin_lines r _)]
    rfl
  rw [holdersKept_iff, hfree]
  refine ((holdersKept_iff d).mp hd).store fun n => ?_
  show false = holdsLine n d.watches[w]
  rw [h, holdsLine_some, hs, Bool.false_and]

/-- A retire that is a renewal frees a watch that holds nothing (R82). -/
theorem retireActive_keepsHolders {d : Device} {w : Fin 16} {r : WatchRec} (hr : d.watches[w] = some r)
    (hs : r.state = .running ∨ r.state = .warn) : d.KeepsHolders (d.retireActive w r).1 := by
  have hc := confirm_keepsHolders (store := id) hr (heldAs_movePhase hr .opened)
  unfold Device.retireActive
  dsimp only
  split
  · next hok =>
    rcases confirm_cases hr id with h | ⟨hj, -⟩
    · have hstate := (movePhase_sameTerms r .opened).2
      have hactive : (r.movePhase .opened).state ≠ .dormant := by
        rw [hstate]
        rcases hs with hs | hs <;> rw [hs] <;> nofun
      obtain ⟨r', _, hl, -, hholds, -⟩ := renew_leaves (w := w) (d := d) hactive
      rw [h] at hc ⊢
      exact fun hd => freeWatch_keepsHolders hl.stands.record (by rw [hholds, hstate]; exact holds_eq_false hs) r (hc hd)
    · exact absurd hok hj
  · exact hc
  · exact hc

theorem takeWatchRetire_keepsHolders : d.KeepsHolders (takeWatchRetire p d).1 := by
  unfold takeWatchRetire
  split
  · exact id
  · refine withWatch_keepsHolders p d fun w r hr => ?_
    split
    · next hs => exact freeWatch_keepsHolders hr (by rw [hs]; rfl) r
    · next hs => exact retireActive_keepsHolders hr (.inl hs)
    · next hs => exact retireActive_keepsHolders hr (.inr hs)
    · exact id
    · exact id

theorem takeRestart_keepsHolders : d.KeepsHolders (takeRestart p d).1 := by
  have hc : d.KeepsHolders (restartConfirm d).1 := by
    unfold restartConfirm
    split
    · next hr => exact confirm_keepsHolders hr (heldAs_movePhase hr .opened)
    · exact id
  unfold takeRestart
  split
  · exact id
  · dsimp only
    split
    · exact hc
    · exact hc
    · exact hc

theorem takeWatchRelease_keepsHolders : d.KeepsHolders (takeWatchRelease p d).1 := by
  refine withWatch_keepsHolders p d fun w r hr => ?_
  dsimp only
  split
  · exact id
  · next hs =>
    have hs : r.state = .tripped := not_not.mp hs
    split
    · exact id
    · have hset := setWatch_keepsHolders (r := { r with state := .releasing })
        (heldAs_of_record hr (by rw [hs]; rfl) rfl)
      unfold Device.releaseWatch
      dsimp only
      split
      · exact fun hd => completeRelease_keepsHolders
          (heldAs_of_record (setWatch_stands w { r with state := .releasing } d).record rfl rfl) (hset hd)
      · exact hset

end

end Sys2Proof.Machine
end

section
/-! The step taken apart once for all predicates on the device: what its requests, hand-overs, edges, ticks and resets
keep, every step keeps. -/

namespace Sys2Proof.Machine

/-- What the parts of a step keep: the link port's changes, a notice's sending, a request, an owner's work, an edge with
its past-due hand-overs, the sample, the tick; and what holds after a reset. -/
structure KeptByParts (P : Device → Prop) : Prop where
  link {d : Device} (l : LinkPort) (h : P d) : P { d with link := l }
  send {d : Device} (h : P d) : P d.sendNotice
  notice {d : Device} (body : NoticeBody) (h : P d) : P (d.notify body)
  request {d : Device} (r : Request) (p : List Byte) (h : P d) : P (takeRequest r p d).1
  work {d : Device} (e : Entry) (h : P d) : P ((d.takeOwner e.owner).ownerWork e)
  edge {d : Device} (role : Role) (level : Level) (h : P d) : P (d.deliverEdge role level).drainPastDue
  input {d : Device} (n : Fin 8) (r : InputRec) (h : P d) : P (d.setInput n r)
  sampled {d : Device} (h : P d) : P { d with sampleOwed := false }
  tick {d : Device} (h : P d) : P d.tick
  reset (inputs : Vector InputRec 8) (spd : Level) (f : FaultRecord) (m : Mode) :
    P { Device.initial inputs spd f with mode := m }

section
variable {P : Device → Prop} (k : KeptByParts P) {d : Device}
include k

/-! ### The link port -/

theorem KeptByParts.arbitrate (h : P d) : P d.arbitrate := by
  unfold Device.arbitrate
  split
  · exact h
  · split
    · exact k.link _ (k.link _ h)
    · split
      · exact h
      · exact k.send h

theorem KeptByParts.takeFrame (f : Frame) (h : P d) : P (d.takeFrame f) := by
  have hanswer : P (answer f d).1 := by
    unfold answer
    split
    · exact k.request _ f.payload h
    · exact k.link _ h
  exact k.link _ hanswer

theorem KeptByParts.dispatchFrames (fuel : Nat) (h : P d) : P (dispatchFrames fuel d) := by
  induction fuel generalizing d with
  | zero => exact h
  | succ fuel ih =>
    rcases dispatchFrames_succ_cases fuel d with ⟨f, rest, -, -, -, hd⟩ | hd
    · rw [hd]
      exact ih (k.arbitrate (k.takeFrame f (k.link _ h)))
    · rwa [hd]

theorem KeptByParts.pump (h : P d) : P d.pump := k.dispatchFrames _ (k.arbitrate h)

theorem KeptByParts.deliverFrame (f : Frame) (h : P d) : P (d.deliverFrame f) := by
  unfold Device.deliverFrame
  split
  · exact h
  · split
    · exact k.dispatchFrames _ (k.link _ h)
    · exact k.link _ h

theorem KeptByParts.completeFrame (got : List Byte) (h : P d) : P (d.completeFrame got) := by
  have hhunt : P (d.setAssembly .hunting) := k.link _ h
  unfold Device.completeFrame
  dsimp only
  split
  · exact k.deliverFrame _ hhunt
  · exact k.link _ hhunt

theorem KeptByParts.receiveByte (b : Byte) (h : P d) : P (d.receiveByte b) := by
  unfold Device.receiveByte
  split
  · split
    · exact k.link _ h
    · exact k.link _ h
  · split
    · exact k.link _ (k.link _ h)
    · exact k.link _ h
  · dsimp only
    split
    · exact k.completeFrame _ h
    · exact k.link _ h

theorem KeptByParts.gapTimeout (h : P d) : P d.gapTimeout := by
  unfold Device.gapTimeout
  split
  · exact h
  · exact k.link _ (k.link _ h)

/-! ### Hand-overs and samples -/

theorem KeptByParts.handOver (e : Entry) (h : P d) : P (d.handOver e) := k.pump (k.work e h)

theorem KeptByParts.finishInstant (fuel : Nat) (h : P d) : P (finishInstant fuel d) := by
  induction fuel generalizing d with
  | zero => exact h
  | succ fuel ih =>
    unfold Machine.finishInstant
    split
    · exact ih (k.handOver _ h)
    · exact h

theorem KeptByParts.expiryOf (want : Entry → Bool) (h : P d) : P (d.expiryOf want) := by
  unfold Device.expiryOf
  split
  · split
    · exact k.handOver _ h
    · exact h
  · exact h

theorem KeptByParts.sampleLine (n : Fin 8) (level : Level) (h : P d) : P (d.sampleLine n level) := by
  unfold Device.sampleLine
  dsimp only
  split
  · exact k.edge _ _ (k.input n _ h)
  · exact k.input n _ h

theorem KeptByParts.sampleAll (levels : BitVec 8) (order : List (Fin 8)) (h : P d) : P (d.sampleAll levels order) :=
  List.foldlRecOn (lineOrder order) (fun (d : Device) n => (d.sampleLine n (pinLevel levels n)).pump)
    (motive := P) (k.sampled h) fun _ hd n _ => k.pump (k.sampleLine n _ hd)

theorem KeptByParts.inputSample (levels : BitVec 8) (order : List (Fin 8)) (h : P d) :
    P (d.inputSample levels order) := by
  unfold Device.inputSample
  split
  · exact k.sampleAll _ _ h
  · exact k.sampleAll _ _ (k.tick (k.finishInstant _ h))

/-! ### Resets and the step -/

theorem KeptByParts.endReset (cause : ResetCause) (pins : BitVec 8) (spd : Level) (d : Device) :
    P (d.endReset cause pins spd) :=
  k.pump (k.notice _ (k.reset (firstSamples pins) spd (d.fault.afterReset cause) .running))

theorem KeptByParts.frameSent (h : P d) : P d.frameSent := by
  rcases Device.frameSent_cases (d := d) rfl with ⟨-, hd⟩ | ⟨-, -, hd⟩ | ⟨-, hd⟩ <;> rw [hd]
  · exact k.reset _ _ _ _
  · exact k.pump (k.link _ h)
  · exact h

theorem KeptByParts.restartReset (pins : BitVec 8) (spd : Level) (h : P d) : P (d.restartReset pins spd) := by
  rcases Device.restartReset_cases pins spd d with ⟨-, hd⟩ | ⟨-, -, hd⟩ <;> rw [hd]
  · exact k.endReset _ _ _ d
  · exact h

theorem KeptByParts.assertReset (h : P d) : P d.assertReset := by
  unfold Device.assertReset
  split
  · exact k.reset _ _ _ _
  · exact k.reset _ _ _ _
  · exact h
  · exact h

theorem KeptByParts.releaseReset (pins : BitVec 8) (spd : Level) (h : P d) : P (d.releaseReset pins spd) := by
  unfold Device.releaseReset
  split
  · exact k.endReset _ _ _ d
  · exact k.endReset _ _ _ d
  · exact h
  · exact h

theorem KeptByParts.applySupply (rstN : Level) (pins : BitVec 8) (spd : Level) (d : Device) :
    P (d.applySupply rstN pins spd) := by
  cases rstN with
  | high => exact k.endReset _ _ _ d
  | low => exact k.reset _ _ _ _

theorem KeptByParts.idle (h : P d) : P d.idle := by
  unfold Device.idle
  split
  · exact h
  · exact h
  · exact k.endReset _ _ _ d
  · split
    · exact k.handOver _ h
    · split
      · exact k.sampleAll _ _ h
      · exact k.tick h

omit k in
theorem whileRunning_kept {f : Device → Device} (hf : ∀ d, P d → P (f d)) {s t : State}
    (h : whileRunning f s = .next t) (hs : P s.toDevice) : P t.toDevice := by
  unfold whileRunning at h
  split at h
  · obtain rfl := Host.Outcome.next.inj h
    exact hf _ hs
  · obtain rfl := Host.Outcome.next.inj h
    exact hs

theorem KeptByParts.exec (c : Instr) {s t : State} (h : exec c s = .next t) (hs : P s.toDevice) : P t.toDevice := by
  have expiry (want : Device → Entry → Bool) (h : whileRunning (fun d => d.expiryOf (want d)) s = .next t) :
      P t.toDevice := whileRunning_kept (P := P) (fun d => k.expiryOf (want d)) h hs
  have received (b : Byte) (h : whileRunning (Device.receiveByte b) s = .next t) : P t.toDevice :=
    whileRunning_kept (P := P) (fun _ => k.receiveByte b) h hs
  cases c with
  | unknownRequest kind tag p => exact whileRunning_kept (P := P) (fun _ => k.deliverFrame _) h hs
  | timerExpiry => exact expiry (fun _ => Entry.ofTimer) h
  | renewalDeadlineExpiry => exact expiry (fun d => d.entryWatchIn .running) h
  | graceDeadlineExpiry => exact expiry (fun d => d.entryWatchIn .warn) h
  | settleDeadlineExpiry => exact expiry (fun d => d.entryWatchIn .releasing) h
  | retripDeadlineExpiry => exact expiry (fun d e => e.owner == .watch 0 && d.entryWatchIn .tripped e) h
  | pulseEnd => exact expiry (fun _ => Entry.ofPulse) h
  | rstoPulseEnd => exact expiry (fun _ e => e.owner == .rstoPulse) h
  | resendDeadlineExpiry => exact expiry (fun _ e => e.owner == .resend) h
  | inputSample levels order => exact whileRunning_kept (P := P) (fun _ => k.inputSample levels order) h hs
  | frameReceived b => exact received b h
  | noiseByte b => exact received b h
  | badLengthAbandon b => exact received b h
  | startByte => exact received 0xC3 h
  | frameContentByte b => exact received b h
  | gapTimeout => exact whileRunning_kept (P := P) (fun _ => k.gapTimeout) h hs
  | transmitComplete => exact whileRunning_kept (P := P) (fun _ => k.frameSent) h hs
  | restartReset pins spd =>
    obtain rfl := Host.Outcome.next.inj h
    exact k.restartReset pins spd hs
  | powerOn rstN pins spd =>
    obtain rfl := Host.Outcome.next.inj h
    exact k.applySupply rstN pins spd _
  | rstNAssert =>
    obtain rfl := Host.Outcome.next.inj h
    exact k.assertReset hs
  | rstNRelease pins spd =>
    obtain rfl := Host.Outcome.next.inj h
    exact k.releaseReset pins spd hs
  | _ => exact whileRunning_kept (P := P) (fun _ => k.deliverFrame _) h hs

/-- A predicate that the parts of a step keep is an invariant of the step. -/
theorem KeptByParts.step {s t : State} (h : step s = .next t) (hs : P s.toDevice) : P t.toDevice := by
  unfold Machine.step at h
  split at h
  · next c rest _ => exact k.exec (s := { s with pending := rest }) c h hs
  · obtain rfl := Host.Outcome.next.inj h
    exact k.idle hs

end

end Sys2Proof.Machine
end

section
/-! The holders of the lines through every request, hand-over, edge and reset (R92), and so through every step. -/

namespace Sys2Proof.Machine

/-! ### The other requests -/

section
variable (p : List Byte) (d : Device)

theorem withTimer_holdings {act : Fin 24 → TimerRec → Taken} (h : ∀ t r, (act t r).1.holdings = d.holdings) :
    (withTimer p d act).1.holdings = d.holdings := by
  unfold withTimer
  split
  · rfl
  · split
    · rfl
    · split
      · rfl
      · exact h _ _

theorem takeTimerDefine_holdings : (takeTimerDefine p d).1.holdings = d.holdings := by
  unfold takeTimerDefine
  split
  · rfl
  · split
    · rfl
    · split
      · rfl
      · split
        · exact defineTimer_holdings d _ _
        · rfl

theorem takeTimerStart_holdings : (takeTimerStart p d).1.holdings = d.holdings := by
  refine withTimer_holdings p d fun t r => ?_
  split
  · exact (drainPastDue_holdings _).trans (beginTimer_holdings d t r)
  · rfl
  · rfl

theorem takeTimerStop_holdings : (takeTimerStop p d).1.holdings = d.holdings := by
  refine withTimer_holdings p d fun t r => ?_
  dsimp only
  split
  · rfl
  · exact stopTimer_holdings d t r
  · exact stopTimer_holdings d t r

theorem takeTimerPause_holdings : (takeTimerPause p d).1.holdings = d.holdings := by
  refine withTimer_holdings p d fun t r => ?_
  split
  · rfl
  · rfl
  · rfl
  · exact pauseTimer_holdings d t r

theorem takeTimerResume_holdings : (takeTimerResume p d).1.holdings = d.holdings := by
  refine withTimer_holdings p d fun t r => ?_
  split
  · exact resumeTimer_holdings d t r
  · rfl
  · rfl

theorem takeTimerFree_holdings : (takeTimerFree p d).1.holdings = d.holdings := by
  refine withTimer_holdings p d fun t r => ?_
  dsimp only
  split
  · rfl
  · split
    · exact releaseClaims_holdings d r
    · rfl
    · rfl

theorem takeTimeSet_holdings : (takeTimeSet p d).1.holdings = d.holdings := by
  rcases takeTimeSet_cases p d with h | ⟨off, h⟩ <;> rw [h]
  exact setWall_holdings d off

theorem takeLinkQuery_holdings : (takeLinkQuery p d).1.holdings = d.holdings := by
  unfold takeLinkQuery
  split
  · rfl
  · split <;> rfl

theorem takeLineSet_holdings : (takeLineSet p d).1.holdings = d.holdings := by
  unfold takeLineSet
  split
  · rfl
  · split
    · split
      · rfl
      · exact setLine_holdings d rfl
    · rfl

theorem takeLineConfig_holdings : (takeLineConfig p d).1.holdings = d.holdings := by
  unfold takeLineConfig
  split
  · rfl
  · split
    · split
      · rfl
      · split
        · rfl
        · split
          · rfl
          · exact setLine_holdings d rfl
    · rfl

theorem takeLineHold_holdings : (takeLineHold p d).1.holdings = d.holdings := by
  unfold takeLineHold
  split
  · rfl
  · exact setHostHold_holdings d true _

theorem takeLineUnhold_holdings : (takeLineUnhold p d).1.holdings = d.holdings := by
  unfold takeLineUnhold
  split
  · rfl
  · exact setHostHold_holdings d false _

theorem takeInputConfig_holdings : (takeInputConfig p d).1.holdings = d.holdings := by
  unfold takeInputConfig
  split
  · rfl
  · split
    · split
      · rfl
      · split
        · rfl
        · split <;> rfl
    · rfl

theorem takeNoticeAck_holdings : (takeNoticeAck p d).1.holdings = d.holdings := by
  unfold takeNoticeAck
  split
  · rfl
  · split
    · rfl
    · dsimp only
      split <;> rfl

theorem takeFaultClear_holdings : (takeFaultClear p d).1.holdings = d.holdings := by
  unfold takeFaultClear
  split <;> rfl

theorem takeRequest_keepsHolders (r : Request) : d.KeepsHolders (takeRequest r p d).1 := by
  have frame {x : Taken} (h : x.1.holdings = d.holdings) : d.KeepsHolders x.1 := keepsHolders_of_holdings h
  have query {x : Taken} (h : x.1 = d) : d.KeepsHolders x.1 := frame (by rw [h])
  cases r with
  | identify => exact query (takeIdentify_fst p d)
  | timeGet => exact query (takeTimeGet_fst p d)
  | scheduleQuery => exact query (takeScheduleQuery_fst p d)
  | faultQuery => exact query (takeFaultQuery_fst p d)
  | lineQuery => exact query (takeLineQuery_fst p d)
  | inputQuery => exact query (takeInputQuery_fst p d)
  | timerQuery => exact frame (withTimer_holdings p d fun _ _ => rfl)
  | watchQuery => exact withWatch_keepsHolders p d fun _ _ _ => id
  | linkQuery => exact frame (takeLinkQuery_holdings p d)
  | restart => exact takeRestart_keepsHolders p d
  | timeSet => exact frame (takeTimeSet_holdings p d)
  | timerDefine => exact frame (takeTimerDefine_holdings p d)
  | timerStart => exact frame (takeTimerStart_holdings p d)
  | timerStop => exact frame (takeTimerStop_holdings p d)
  | timerPause => exact frame (takeTimerPause_holdings p d)
  | timerResume => exact frame (takeTimerResume_holdings p d)
  | timerFree => exact frame (takeTimerFree_holdings p d)
  | watchDefine => exact takeWatchDefine_keepsHolders p d
  | watchStart => exact takeWatchStart_keepsHolders p d
  | checkPrep => exact takeCheckPrep_keepsHolders p d
  | checkConf => exact takeCheckConf_keepsHolders p d
  | watchRetune => exact takeWatchRetune_keepsHolders p d
  | watchRetire => exact takeWatchRetire_keepsHolders p d
  | watchRelease => exact takeWatchRelease_keepsHolders p d
  | lineConfig => exact frame (takeLineConfig_holdings p d)
  | lineSet => exact frame (takeLineSet_holdings p d)
  | lineHold => exact frame (takeLineHold_holdings p d)
  | lineUnhold => exact frame (takeLineUnhold_holdings p d)
  | inputConfig => exact frame (takeInputConfig_holdings p d)
  | noticeAck => exact frame (takeNoticeAck_holdings p d)
  | faultClear => exact frame (takeFaultClear_holdings p d)

end

/-! ### The other parts of a step -/

theorem sendNotice_holdings (d : Device) : d.sendNotice.holdings = d.holdings := by
  unfold Device.sendNotice
  split
  · rfl
  · split
    · split
      · rfl
      · dsimp only
        split <;> rfl
    · rfl

/-- The hand-over of an entry to its owner (R11). -/
theorem ownerWork_keepsHolders (e : Entry) (d : Device) : d.KeepsHolders ((d.takeOwner e.owner).ownerWork e) := by
  have htake : d.KeepsHolders (d.takeOwner e.owner) := keepsHolders_of_holdings rfl
  refine fun hd => ?_
  unfold Device.ownerWork
  split
  · exact keepsHolders_of_holdings ((drainPastDue_holdings _).trans (expire_holdings _ _ 24 _ _)) (htake hd)
  · exact watchDeadline_keepsHolders _ _ (htake hd)
  · exact keepsHolders_of_holdings (setLine_holdings _ rfl) (htake hd)
  · exact htake hd
  · refine keepsHolders_of_holdings ?_ (htake hd)
    unfold Device.resendDeadline
    split <;> rfl

/-- An edge's delivery (R142). -/
theorem deliverEdge_keepsHolders (role : Role) (level : Level) (d : Device) :
    d.KeepsHolders (d.deliverEdge role level) := by
  unfold Device.deliverEdge
  split
  · exact id
  · exact watchEdge_keepsHolders _ level d
  · exact keepsHolders_of_holdings (countEdge_holdings d _ level)
  · split
    · exact keepsHolders_of_holdings (triggerTimer_holdings d _)
    · exact id
  · split
    · exact keepsHolders_of_holdings (stopEdge_holdings d _)
    · exact id

/-- After a reset no line has a holder, and watch 0 alone is defined and holds none (R85, R138). -/
theorem initial_holdersKept (inputs : Vector InputRec 8) (spd : Level) (f : FaultRecord) (m : Mode) :
    ({ Device.initial inputs spd f with mode := m } : Device).holdersKept := by
  refine (holdersKept_iff _).mpr fun n w => ?_
  have hholder : ((Device.initial inputs spd f).lines[n]).watchHolders.getLsbD w = false := by
    simp [Device.initial, LineRec.default]
  refine hholder.trans (Eq.symm ?_)
  show holdsLine n (Device.initial inputs spd f).watches[w] = false
  cases hr : (Device.initial inputs spd f).watches[w] with
  | none => rfl
  | some r =>
    obtain ⟨-, rfl⟩ := initial_watch hr
    rfl

theorem holdersKept_parts : KeptByParts Device.holdersKept where
  link _ := keepsHolders_of_holdings rfl
  send := keepsHolders_of_holdings (sendNotice_holdings _)
  notice _ := keepsHolders_of_holdings rfl
  request r p := takeRequest_keepsHolders p _ r
  work e := ownerWork_keepsHolders e _
  edge role level hd := keepsHolders_of_holdings (drainPastDue_holdings _) (deliverEdge_keepsHolders role level _ hd)
  input _ _ := keepsHolders_of_holdings rfl
  sampled := keepsHolders_of_holdings rfl
  tick := keepsHolders_of_holdings (by unfold Device.tick; split <;> rfl)
  reset := initial_holdersKept

/-- Settles O56: a watch's record and its holds change together, by a trip or the completion of a release, and every
other part of a step leaves both, or the lines that the record would have the watch hold. -/
theorem holdersFollowWatches : Obligations.HoldersFollowWatches := by
  unfold Obligations.HoldersFollowWatches
  exact fun _ _ hs h => holdersKept_parts.step h hs

end Sys2Proof.Machine
end

section
/-! WATCH_RELEASE of a TRIPPED watch: refused, begun, or completed at once (R96, R97, R100). -/

namespace Sys2Proof.Machine

section
variable {d : Device} {w : Fin 16} {r : WatchRec}

/-- An entry inserted a positive time ahead is due then, or at the end of elapsed time (R1, R9). -/
theorem dueOf_insertEntry_add {k : Nat} (hk : 0 < k) (hnow : d.elapsed < 281474976710655) (o : Owner) :
    (d.insertEntry o (d.elapsed + k) none).dueOf o = some (min (d.elapsed + k) 281474976710655) := by
  have hlater := dueOf_insertEntry_later (lt_clipDue_add hk hnow) o none
  rw [clipDue_natCast, Int.toNat_natCast] at hlater
  push_cast at hlater
  exact hlater

/-- Where the watch is TRIPPED, its recovery decides (R96). -/
theorem takeWatchRelease_tripped (h : d.watches[w] = some r) (hs : r.state = .tripped) :
    takeWatchRelease [byte w] d =
      if r.recovery < 2 then (d, 0x1B :: checkinReply w d)
      else (d.releaseWatch w r, 0x00 :: checkinReply w (d.releaseWatch w r) ++
        optInstant ((d.releaseWatch w r).dueOf (.watch w))) := by
  rw [takeWatchRelease, withWatch_defined h, if_neg (not_not.mpr hs)]
  rfl

theorem releaseWatch_settling (h : 0 < r.settle) :
    d.releaseWatch w r =
      (d.setWatch w (some { r with state := .releasing })).insertEntry (.watch w) (d.elapsed + r.settle) none :=
  if_neg (Nat.pos_iff_ne_zero.mp h)

/-- With settle 0 the release completes at once (R97, R100). -/
theorem releaseWatch_at_once (h : r.settle = 0) (hw : w ≠ 0) :
    d.releaseWatch w r =
      (((d.setWatch w (some { r with state := .running, recovery := 0, lastRenewal := some d.elapsed })).dropHolds w
        r.holdSet).insertEntry (.watch w) (d.elapsed + r.period) none).notify (.releaseDone w) := by
  refine (if_pos h).trans ?_
  rw [Device.completeRelease, if_neg hw]
  simp only [Device.setWatch, Vector.set_set]

end

/-- Settles O32: the checks in their order, then the release by its settle time. -/
theorem watchReleaseBegins : Obligations.WatchReleaseBegins := by
  intro s tag w r hready hr hs hnow
  have htake := takeWatchRelease_tripped hr hs
  refine ⟨fun hrec => ?_, fun hrec hsettle => ?_, fun hrec hsettle hperiod hw => ?_⟩
  · rw [if_pos hrec, checkinReply_of_some hr, hs] at htake
    exact exec_taken hready .watchRelease tag htake
  · have hrecord := setWatch_stands w { r with state := .releasing } s.toDevice
    have hdue := dueOf_insertEntry_add (d := s.toDevice.setWatch w (some { r with state := .releasing })) hsettle hnow
      (.watch w)
    rw [if_neg (by omega), releaseWatch_settling hsettle, checkinReply_of_some (hrecord.insertEntry _ _).record] at htake
    refine exec_taken hready .watchRelease tag (htake.trans ?_)
    exact congrArg₂ (fun due rec => (_, [0x00, byte w, 0x05, r.phase.code, byte rec] ++ optInstant due)) hdue hrec
  · have hrecord := setWatch_stands w { r with state := .running, recovery := 0, lastRenewal := some s.elapsed } s.toDevice
    have hdue := dueOf_insertEntry_add (d := (s.toDevice.setWatch w (some { r with
      state := .running, recovery := 0, lastRenewal := some s.elapsed })).dropHolds w r.holdSet) hperiod hnow (.watch w)
    rw [if_neg (by omega), releaseWatch_at_once hsettle hw, checkinReply_of_some (by exact hrecord.record)] at htake
    refine exec_taken hready .watchRelease tag (htake.trans ?_)
    exact congrArg (fun due => (_, [0x00, byte w, 0x02, r.phase.code, 0x00] ++ optInstant due)) hdue

end Sys2Proof.Machine
end

section
/-! The hand-over of a watch's entry by its state: renewal, settle and grace deadline (R87, R90, R91, R100, R107,
R112). -/

namespace Sys2Proof.Machine

/-! ### The hand-over -/

section
variable {w : Fin 16} {r : WatchRec}

/-- The commands that hand over a watch's entry in the state they name (R11). -/
theorem whileRunning_watchDeadline {s : State} {e : Entry} {st : WatchState} (hm : s.mode = .running)
    (he : s.toDevice.headDue = some e) (ho : e.owner = .watch w) (hr : s.watches[w] = some r) (hs : r.state = st) :
    whileRunning (fun d => d.expiryOf (d.entryWatchIn st)) s =
      .next (s.become (((s.toDevice.takeOwner (.watch w)).watchDeadline w).pump)) := by
  have hwant : s.toDevice.entryWatchIn st e = true := by
    rw [Device.entryWatchIn, ho]
    dsimp only
    rw [hr]
    exact beq_iff_eq.mpr hs
  rw [whileRunning_running hm, Device.expiryOf, he]
  dsimp only
  rw [if_pos hwant, Device.handOver, Device.ownerWork, ho]

section
variable {d : Device} (h : d.watches[w] = some r)
include h

theorem watchDeadline_running (hs : r.state = .running) : d.watchDeadline w = d.enterWarn w .expired r := by
  rw [Device.watchDeadline, h]
  dsimp only
  rw [hs]

theorem watchDeadline_warn (hs : r.state = .warn) : d.watchDeadline w = d.trip w .expired r := by
  rw [Device.watchDeadline, h]
  dsimp only
  rw [hs]

theorem watchDeadline_releasing (hs : r.state = .releasing) : d.watchDeadline w = d.completeRelease w r := by
  rw [Device.watchDeadline, h]
  dsimp only
  rw [hs]

end

end

/-- Settles O34: by the rule that the hand-over of the entry is in each state. -/
theorem renewalAndSettleDeadlines : Obligations.RenewalAndSettleDeadlines := by
  constructor
  · intro s e w r hm he ho hr hs phase
    refine (whileRunning_watchDeadline hm he ho hr hs).trans ?_
    rw [watchDeadline_running (by exact hr) hs]
    rfl
  · intro s e w r hm he ho hr hs d
    refine (whileRunning_watchDeadline hm he ho hr hs).trans ?_
    rw [watchDeadline_releasing (by exact hr) hs]
    rfl

/-! ### A trip -/

section
variable (w : Fin 16) (cause : Cause) (r : WatchRec) (d : Device)

theorem trip_mode : (d.trip w cause r).mode = d.mode := by
  unfold Device.trip Device.tripDeadline
  dsimp only
  split <;> rfl

theorem trip_lines : (d.trip w cause r).lines = (d.addHolds w r.holdSet).lines := by
  unfold Device.trip Device.tripDeadline
  dsimp only
  split <;> rfl

/-- A trip touches the watch's own entry and, for watch 0, that of the RSTO pulse (R91, R107). -/
theorem trip_entryOf_of_ne {v : Fin 16} (hv : v ≠ w) :
    (d.trip w cause r).entryOf (.watch v) = d.entryOf (.watch v) := by
  have hne : Owner.watch v ≠ .watch w := fun h => hv (Owner.watch.inj h)
  unfold Device.trip Device.tripDeadline
  dsimp only
  split
  · next hw =>
    subst hw
    exact (Device.entryOf_insertEntry_of_ne (by nofun) _ _ _).trans (Device.entryOf_insertEntry_of_ne hne _ _ _)
  · exact Device.entryOf_removeEntry_of_ne hne _

/-- The trip of watch 0 starts the RSTO pulse (R107, R108). -/
theorem trip_rsto (hm : d.mode = .running) : (d.trip 0 cause r).rsto = .low := by
  have hentry : ((d.trip 0 cause r).entryOf .rstoPulse).isSome = true :=
    isSome_entryOf_insertEntry_self .rstoPulse _ none _
  rw [Device.rsto, Device.inReset, trip_mode, hm]
  exact if_pos hentry

/-- FAULT is HIGH while a watch is TRIPPED (R93). -/
theorem trip_faultPin (hm : d.mode = .running) : (d.trip w cause r).faultPin = .high := by
  have hholds : (d.trip w cause r).watchHolds w = true := by
    rw [Device.watchHolds, (trip_leaves w cause r d).stands.record]
    rfl
  rw [Device.faultPin, Device.inReset, trip_mode, hm]
  exact if_pos (List.any_eq_true.mpr ⟨w, List.mem_finRange w, hholds⟩)

/-- A line with a watch among its holders is held. -/
theorem heldSafe_of_holder {l : LineRec} {w : Fin 16} (h : l.watchHolders.getLsbD w = true) : l.heldSafe = true := by
  have hne : l.watchHolders ≠ 0 := fun h0 => by simp [h0] at h
  rw [LineRec.heldSafe, bne_iff_ne.mpr hne, Bool.true_or]

/-- Each line of the hold set drives its safe level (R92, R121). -/
theorem trip_outPin (hm : d.mode = .running) {n : Fin 8} (hn : r.holdSet.getLsbD n = true) :
    (d.trip w cause r).outPin n = d.lines[n].safeLevel := by
  have hline : (d.trip w cause r).lines[n] =
      { d.lines[n] with watchHolders := d.lines[n].watchHolders ||| watchBit w } := by
    rw [trip_lines, Device.addHolds_line, inSet, if_pos hn]
  have hheld : LineRec.heldSafe { d.lines[n] with watchHolders := d.lines[n].watchHolders ||| watchBit w } = true :=
    heldSafe_of_holder (w := w) (by simp only [BitVec.getLsbD_or, getLsbD_watchBit, decide_true, Bool.or_true])
  rw [Device.outPin, Device.inReset, trip_mode, hm, hline]
  exact if_pos hheld

end

theorem removeEntry_takeOwner (o : Owner) (d : Device) : (d.takeOwner o).removeEntry o = d.takeOwner o := by
  simp [Device.removeEntry, Device.takeOwner, removeOwner]

/-- A trip of watches 1 to 15 whose entry has been handed over. -/
theorem trip_takeOwner {w : Fin 16} (hw : w ≠ 0) (cause : Cause) (r : WatchRec) (d : Device) :
    (d.takeOwner (.watch w)).trip w cause r =
      ((((d.takeOwner (.watch w)).setWatch w (some { r with
        state := .tripped, trips := addStop16 r.trips 1, recovery := 0 })).addHolds w r.holdSet).notify
          (.watchTripped w cause)).recordTrip w cause := by
  have htaken : ∀ x, ((d.takeOwner (.watch w)).setWatch w x).removeEntry (.watch w) =
      (d.takeOwner (.watch w)).setWatch w x := fun x =>
    congrArg (Device.setWatch w x) (removeEntry_takeOwner (.watch w) d)
  simp only [Device.trip, Device.tripDeadline, if_neg hw, htaken]

/-- Settles O35: the hand-over of a WARN watch's entry is its trip, and a trip leaves the levels by its record and its
holds. -/
theorem graceDeadlineTrips : Obligations.GraceDeadlineTrips := by
  intro s e w r hm he ho hr hs d₀ d₁ d
  have hd : d = (s.toDevice.takeOwner (.watch w)).trip w .expired r := by
    by_cases hw : w = 0
    · subst hw
      rfl
    · rw [trip_takeOwner hw]
      simp only [d, d₁, if_neg hw]
      rfl
  rw [hd]
  refine ⟨?_, trip_faultPin w .expired r _ hm,
    fun n hn => trip_outPin w .expired r (s.toDevice.takeOwner _) hm hn, ?_, fun v hv => ⟨?_, ?_⟩⟩
  · refine (whileRunning_watchDeadline hm he ho hr hs).trans ?_
    rw [watchDeadline_warn (by exact hr) hs]
  · rintro rfl
    exact trip_rsto .expired r _ hm
  · exact (trip_leaves w .expired r _).only.watches v hv
  · exact (trip_entryOf_of_ne w .expired r _ hv).trans
      (Device.entryOf_takeOwner_of_ne (fun h => hv (Owner.watch.inj h)) _)

end Sys2Proof.Machine
end

section
/-! The hand-over of TRIPPED watch 0's entry: the retrip, and LOCKOUT at the third in a row (R110, R111). -/

namespace Sys2Proof.Machine

/-- Of an expiry command's filter, only what it says of the head that is due matters (R11). -/
theorem expiryOf_congr {d : Device} {e : Entry} (he : d.headDue = some e) {want want' : Entry → Bool}
    (h : want e = want' e) : d.expiryOf want = d.expiryOf want' := by
  simp only [Device.expiryOf, he, h]

/-- RETRIP_DEADLINE_EXPIRY hands over TRIPPED watch 0's entry (R110). -/
theorem exec_retripDeadlineExpiry {s : State} {e : Entry} {r : WatchRec} (hm : s.mode = .running)
    (he : s.toDevice.headDue = some e) (ho : e.owner = .watch 0) (hr : s.watches[(0 : Fin 16)] = some r)
    (hs : r.state = .tripped) :
    exec .retripDeadlineExpiry s = .next (s.become (((s.toDevice.takeOwner (.watch 0)).watchDeadline 0).pump)) := by
  have hfilter : s.toDevice.expiryOf (fun e => e.owner == .watch 0 && s.toDevice.entryWatchIn .tripped e) =
      s.toDevice.expiryOf (s.toDevice.entryWatchIn .tripped) :=
    expiryOf_congr he (by rw [ho, beq_self_eq_true, Bool.true_and])
  refine Eq.trans ?_ (whileRunning_watchDeadline hm he ho hr hs)
  rw [whileRunning_running hm, ← hfilter]
  exact whileRunning_running hm _

section
variable {d : Device} {r : WatchRec}

theorem watchDeadline_tripped_zero (h : d.watches[(0 : Fin 16)] = some r) (hs : r.state = .tripped) :
    d.watchDeadline 0 = d.retrip r := by
  rw [Device.watchDeadline, h]
  dsimp only
  rw [hs]
  exact if_pos rfl

/-- What every retrip does before its count decides: record, count, RSTO pulse, notice, trip entry (R110). -/
def Device.retripped (r : WatchRec) (d : Device) : Device :=
  ((({ d.setWatch 0 (some { r with trips := addStop16 r.trips 1, recovery := 0 }) with
      linkWatch := { d.linkWatch with consecutive := d.linkWatch.consecutive + 1 } } : Device).startRsto).notify
    (.watchTripped 0 .retrip)).recordTrip 0 .retrip

/-- Below the third trip in a row the retrip deadline is inserted again (R110). -/
theorem retrip_below (hn : d.linkWatch.consecutive + 1 < 3) : d.retrip r = (d.retripped r).insertRetrip r := if_pos hn

/-- The third trip in a row sets LOCKOUT, with its notice and no deadline (R111). -/
theorem retrip_third (hn : d.linkWatch.consecutive + 1 = 3) :
    d.retrip r = ({ d.retripped r with
      linkWatch := { d.linkWatch with consecutive := 3, lockout := true } } : Device).notify (.linkLockout 3) := by
  rw [← hn]
  exact if_neg (by rw [hn]; exact Nat.lt_irrefl 3)

end

/-- Settles O36: the hand-over is the retrip, whose count decides between the deadline and LOCKOUT. -/
theorem retripDeadlineRetrips : Obligations.RetripDeadlineRetrips := by
  intro s e r hm he ho hr hs d₀ d
  have hexec := exec_retripDeadlineExpiry hm he ho hr hs
  rw [watchDeadline_tripped_zero (by exact hr) hs] at hexec
  have hd : (s.toDevice.takeOwner (.watch 0)).retripped r = d := rfl
  refine ⟨fun hn => hexec.trans ?_, fun hn => hexec.trans ?_⟩
  · rw [retrip_below (by exact hn), hd]
    rfl
  · rw [retrip_third (by exact hn), hd]
    rfl

end Sys2Proof.Machine
end

section
/-! The fault record: its report, its clearing and the trip entry appended (R114, R117, R118). -/

namespace Sys2Proof.Machine

theorem takeFaultQuery_badLength {p : List Byte} (h : p ≠ []) (d : Device) : takeFaultQuery p d = (d, [0x11]) :=
  if_pos (mt List.length_eq_zero_iff.mp h)

theorem takeFaultClear_badLength {p : List Byte} (h : p ≠ []) (d : Device) : takeFaultClear p d = (d, [0x11]) :=
  if_pos (mt List.length_eq_zero_iff.mp h)

/-- Of four trip entries the oldest makes room, so that at most the three newest stay (R114). -/
theorem appendTrip_eq_drop (e : TripEntry) {l : List TripEntry} (h : l.length ≤ 4) :
    appendTrip e l = l.drop (l.length - 3) ++ [e] := by
  rw [appendTrip, Config.tripCapacity]
  split
  · next hroom => rw [Nat.sub_eq_zero_of_le (by omega), List.drop_zero]
  · next hfull => rw [show l.length - 3 = 1 by omega]

/-- A wall time within its 48 bits is sent as it is (R3). -/
theorem wallValue_of_fits {wall : Int} (h0 : 0 ≤ wall) (h : wall < 281474976710656) : wallValue wall = wall.toNat :=
  if_pos ⟨h0, by omega⟩

/-- Settles O47: the reports are laid out by the definitions, and a trip entry is appended to what R114 leaves. -/
theorem faultRecordReportedAndKept : Obligations.FaultRecordReportedAndKept := by
  refine ⟨fun s tag hready => ⟨fun q hq p hp => ?_, ?_, ?_⟩, fun d w cause hlen h0 hwall => ?_⟩
  · simp only [List.mem_cons, List.not_mem_nil, or_false] at hq
    rcases hq with rfl | rfl
    · exact exec_taken hready .faultQuery tag (takeFaultQuery_badLength hp _)
    · exact exec_taken hready .faultClear tag (takeFaultClear_badLength hp _)
  · exact exec_taken hready .faultQuery tag rfl
  · exact exec_taken hready .faultClear tag rfl
  · rw [Device.recordTrip, appendTrip_eq_drop _ hlen, wallValue_of_fits (by exact h0) (by exact hwall)]
    rfl

end Sys2Proof.Machine
end

section
/-! The reset that RST_N holds (R116, R138, R185, R187). -/

namespace Sys2Proof.Machine

/-- Reset values in a held reset: the blocks are empty, and the pins are those of the reset (R17, R138, R187). -/
theorem initial_inResetOf (cause : ResetCause) (inputs : Vector InputRec 8) (spd : Level) (f : FaultRecord) :
    ({ Device.initial inputs spd f with mode := .held cause } : Device).inResetOf cause := by
  refine ⟨rfl, rfl, rfl, rfl, rfl, rfl, rfl, rfl, fun x => ?_, fun _ => rfl, rfl, rfl, fun _ => rfl⟩
  exact Vector.getElem_replicate _

theorem assertReset_running {d : Device} (h : d.mode = .running) : d.assertReset = d.holdReset .pin := by
  rw [Device.assertReset, h]

theorem assertReset_restart {d : Device} (h : d.mode = .held .restart) :
    d.assertReset = ({ d with fault := d.fault.afterReset .restart } : Device).holdReset .pin := by
  rw [Device.assertReset, h]

theorem eq_pin_or_powerOn {cause : ResetCause} (h : cause ≠ .restart) : cause = .pin ∨ cause = .powerOn := by
  cases cause with
  | restart => exact absurd rfl h
  | pin => exact .inl rfl
  | powerOn => exact .inr rfl

section
variable {d : Device} {cause : ResetCause} (h : d.mode = .held cause)
include h

/-- Within a reset that RST_N holds already, its going LOW is no event (log entry 4). -/
theorem assertReset_held (hc : cause ≠ .restart) : d.assertReset = d := by
  rcases eq_pin_or_powerOn hc with rfl | rfl <;> rw [Device.assertReset, h]

/-- RESTART_RESET ends no reset of another cause (log entry 4). -/
theorem restartReset_held (hc : cause ≠ .restart) (pins : BitVec 8) (spd : Level) : d.restartReset pins spd = d := by
  rcases eq_pin_or_powerOn hc with rfl | rfl <;> rw [Device.restartReset, h]

/-- A device that RST_N holds in reset does nothing of itself (log entry 2). -/
theorem idle_held (hc : cause ≠ .restart) : d.idle = d := by
  rcases eq_pin_or_powerOn hc with rfl | rfl <;> rw [Device.idle, h]

end

/-- A RESTART reset is not one that the release of RST_N ends (log entry 4). -/
theorem releaseReset_restart {d : Device} (h : d.mode = .held .restart) (pins : BitVec 8) (spd : Level) :
    d.releaseReset pins spd = d := by
  rw [Device.releaseReset, h]

/-- In a reset no command but the four of the resets acts (R17, R138, R140, R185, R187). -/
theorem exec_held {s : State} {cause : ResetCause} (h : s.mode = .held cause) {c : Instr}
    (hpower : ∀ r p d, c ≠ .powerOn r p d) (hrelease : ∀ p d, c ≠ .rstNRelease p d)
    (hrestart : ∀ p d, c ≠ .restartReset p d) (hassert : c ≠ .rstNAssert) : exec c s = .next s := by
  cases c with
  | powerOn r p d => exact absurd rfl (hpower r p d)
  | rstNRelease p d => exact absurd rfl (hrelease p d)
  | restartReset p d => exact absurd rfl (hrestart p d)
  | rstNAssert => exact absurd rfl hassert
  | _ => exact whileRunning_held h _

/-- A command that leaves the device leaves the state. -/
theorem next_become_self {s : State} {d : Device} (h : d = s.toDevice) :
    (.next (s.become d) : Host.Outcome State Fault Refusal) = .next s := by
  rw [h]
  rfl

/-- Settles O51: each way into the held reset leaves reset values, and in it the commands act by the cause. -/
theorem rstNHoldsDevice : Obligations.RstNHoldsDevice := by
  refine ⟨fun s c pins spd hc => ?_, fun s cause hm => ⟨fun c => exec_held hm, fun hcause => ⟨?_, fun p d => ?_,
    fun hidle => ?_⟩, ?_⟩⟩
  · rcases hc with ⟨hm, rfl⟩ | rfl
    · refine ⟨.pin, s.become s.toDevice.assertReset, rfl, ?_, rfl, fun _ => ⟨rfl, fun hrun => ?_, fun hres => ?_⟩,
        fun hne => absurd rfl hne⟩
      · rcases hm with hrun | hres
        · rw [assertReset_running hrun]
          exact initial_inResetOf .pin _ _ _
        · rw [assertReset_restart hres]
          exact initial_inResetOf .pin _ _ _
      · rw [assertReset_running hrun]
        rfl
      · rw [assertReset_restart hres]
        rfl
    · exact ⟨.powerOn, s.become (s.toDevice.applySupply .low pins spd), rfl, initial_inResetOf .powerOn _ _ _, rfl,
        nofun, fun _ => ⟨rfl, rfl⟩⟩
  · exact next_become_self (assertReset_held hm hcause)
  · exact next_become_self (restartReset_held hm hcause p d)
  · exact (step_idle hidle).trans (next_become_self (idle_held hm hcause))
  · rintro rfl p d
    exact next_become_self (releaseReset_restart hm p d)

end Sys2Proof.Machine
end

section
/-! The levels and conditions of output lines, read as propositions: who holds, drives and locks a line (R92, R121,
R131, R135). -/

namespace Sys2Proof.Machine

/-! ### Held and driven -/

/-- A line is held by a watch or by HOST (R121). -/
theorem heldSafe_iff {l : LineRec} : l.heldSafe = true ↔ l.watchHolders ≠ 0 ∨ l.hostHolder = true := by
  rw [LineRec.heldSafe, Bool.or_eq_true, bne_iff_ne]

/-- The active level of a line is opposite to its rest level (R120). -/
theorem opposite_eq (a : Level) : a.opposite = if a = .low then .high else .low := by
  cases a <;> rfl

/-- The driven level by the holders and the shadow (R120, R121). -/
theorem driven_eq (l : LineRec) :
    l.driven =
      if l.watchHolders ≠ 0 ∨ l.hostHolder = true then l.safeLevel
      else match l.shadow with
        | .rest => l.restLevel
        | .active => if l.restLevel = .low then .high else .low := by
  rw [LineRec.driven, LineRec.shadowLevel]
  refine if_congr heldSafe_iff rfl ?_
  cases l.shadow with
  | rest => rfl
  | active => exact opposite_eq l.restLevel

/-- While the device runs, the pin of a line is at its driven level (R121). -/
theorem outPin_running {d : Device} (hm : d.mode = .running) (n : Fin 8) : d.outPin n = d.lines[n].driven := by
  rw [Device.outPin, Device.inReset, hm]
  exact if_neg Bool.false_ne_true

/-! ### Locked -/

/-- The active states are all but DORMANT (R64). -/
theorem active_iff {st : WatchState} : st.active = true ↔ st ≠ .dormant := by
  cases st <;> decide

/-- A watch locks the lines of its hold set while it is active (R131). -/
theorem watchLocks_iff {d : Device} {n : Fin 8} {w : Fin 16} :
    d.watchLocks n w = true ↔
      ∃ r, d.watches[w] = some r ∧ r.state ≠ .dormant ∧ r.holdSet.getLsbD n = true := by
  rw [Device.watchLocks]
  cases d.watches[w] with
  | none => exact ⟨nofun, nofun⟩
  | some r =>
    dsimp only
    rw [Bool.and_eq_true, active_iff, inSet]
    exact ⟨fun h => ⟨r, rfl, h⟩, fun ⟨_, hr, h⟩ => Option.some.inj hr ▸ h⟩

theorem lineLocked_iff {d : Device} {n : Fin 8} :
    d.lineLocked n = true ↔
      ∃ w : Fin 16, ∃ r, d.watches[w] = some r ∧ r.state ≠ .dormant ∧ r.holdSet.getLsbD n = true := by
  simp only [Device.lineLocked, List.any_eq_true, List.mem_finRange, true_and, watchLocks_iff]

/-- Marks are added to a set of watches one by one. -/
theorem getLsbD_foldl_watchBit (p : Fin 16 → Bool) (v : Fin 16) (l : List (Fin 16)) (acc : BitVec 16) :
    (l.foldl (fun acc w => if p w then acc ||| watchBit w else acc) acc).getLsbD v =
      (acc.getLsbD v || (decide (v ∈ l) && p v)) := by
  induction l generalizing acc with
  | nil => simp
  | cons w l ih =>
    rw [List.foldl_cons, ih]
    by_cases hv : v = w
    · subst hv
      cases hp : p v <;> simp [getLsbD_watchBit]
    · cases hp : p w with
      | false => simp [hv]
      | true =>
        simp only [if_true, BitVec.getLsbD_or, getLsbD_watchBit, List.mem_cons, hv, decide_false, Bool.or_false,
          false_or]

/-- A bit of a set of watches is the property of its watch (R188). -/
theorem watchSetOf_getLsbD (p : Fin 16 → Bool) (w : Fin 16) : (watchSetOf p).getLsbD w = p w := by
  rw [watchSetOf, getLsbD_foldl_watchBit]
  simp

/-- The locking watches are the active ones with the line in their hold set (R135). -/
theorem locking_iff {d : Device} {n : Fin 8} {w : Fin 16} :
    (d.locking n).getLsbD w = true ↔
      ∃ r, d.watches[w] = some r ∧ r.state ≠ .dormant ∧ r.holdSet.getLsbD n = true := by
  rw [Device.locking, watchSetOf_getLsbD, watchLocks_iff]

end Sys2Proof.Machine
end

section
/-! LINE_SET and LINE_CONFIG (R130 to R132). -/

namespace Sys2Proof.Machine

theorem setLine_lines_self (n : Fin 8) (l : LineRec) (d : Device) : (d.setLine n l).lines[n] = l := by
  simp

/-! ### Arguments out of range -/

theorem shadowOfCode_none {k : Nat} (h : 1 < k) : Shadow.ofCode k = none := by
  obtain ⟨n, rfl⟩ := Nat.exists_eq_add_of_lt h
  rw [show 1 + n + 1 = n + 2 by omega]
  rfl

/-- LINE_SET of a line above 7 or a level without a code (R188). -/
theorem takeLineSet_badArg {n a : Byte} (h : 7 < n.toNat ∨ 1 < a.toNat) (d : Device) :
    takeLineSet [n, a] d = (d, [0x12, n]) := by
  rw [takeLineSet, if_neg (by simp)]
  split
  · next hid hsh =>
    rcases h with h | h
    · rw [idAt_none (by exact h)] at hid
      cases hid
    · rw [shadowOfCode_none (by exact h)] at hsh
      cases hsh
  · rfl

/-- LINE_CONFIG of a line above 7 or a level without a code (R188). -/
theorem takeLineConfig_badArg {n a b : Byte} (h : 7 < n.toNat ∨ 1 < a.toNat ∨ 1 < b.toNat) (d : Device) :
    takeLineConfig [n, a, b] d = (d, [0x12, n]) := by
  rw [takeLineConfig, if_neg (by simp)]
  split
  · next hid hrest hsafe =>
    rcases h with h | h | h
    · rw [idAt_none (by exact h)] at hid
      cases hid
    · rw [levelOfCode_none (by exact h)] at hrest
      cases hrest
    · rw [levelOfCode_none (by exact h)] at hsafe
      cases hsafe
  · rfl

/-! ### Arguments in range -/

/-- The shadow that a level of LINE_SET names (Table 11-4). -/
def Shadow.ofLevel (x : Level) : Shadow := if x = .high then .active else .rest

theorem shadowOfCode_levelCode (x : Level) : Shadow.ofCode (levelCode x).toNat = some (Shadow.ofLevel x) := by
  cases x <;> rfl

theorem code_ofLevel (x : Level) : (Shadow.ofLevel x).code = levelCode x := by
  cases x <;> rfl

/-- What a line drives once LINE_SET has given its shadow (R121, R130). -/
theorem driven_ofLevel (x : Level) (l : LineRec) :
    LineRec.driven { l with shadow := Shadow.ofLevel x } =
      if l.watchHolders ≠ 0 ∨ l.hostHolder = true then l.safeLevel
      else if x = .high then (if l.restLevel = .low then .high else .low) else l.restLevel := by
  rw [driven_eq]
  cases x <;> rfl

/-- LINE_SET goes by the binding of its line (R130). -/
theorem takeLineSet_line (x : Level) (d : Device) (n : Fin 8) :
    takeLineSet [byte n, levelCode x] d =
      if d.lines[n].binding.isSome then (d, [0x15, byte n])
      else (d.setLine n { d.lines[n] with shadow := Shadow.ofLevel x },
        [0x00, byte n, levelCode x, levelCode (LineRec.driven { d.lines[n] with shadow := Shadow.ofLevel x })]) := by
  have hsh : Shadow.ofCode (byteAt [byte n, levelCode x] 1) = some (Shadow.ofLevel x) := shadowOfCode_levelCode x
  rw [takeLineSet, if_neg (by simp), idAt_byte_fin8, hsh]
  dsimp only [Device.setShadow]
  rw [setLine_lines_self, code_ofLevel]
  rfl

/-- LINE_CONFIG goes by the lock, the binding and the holders of its line, in this order (R131, R132). -/
theorem takeLineConfig_line (x y : Level) (d : Device) (n : Fin 8) :
    takeLineConfig [byte n, levelCode x, levelCode y] d =
      if d.lineLocked n then (d, [0x16, byte n])
      else if d.lines[n].binding.isSome then (d, [0x15, byte n])
      else if d.lines[n].heldSafe then (d, [0x18, byte n])
      else (d.setLine n { d.lines[n] with restLevel := x, safeLevel := y, shadow := .rest },
        [0x00, byte n, levelCode x, levelCode y, levelCode x]) := by
  have hx : levelOfCode (byteAt [byte n, levelCode x, levelCode y] 1) = some x := levelOfCode_levelCode x
  have hy : levelOfCode (byteAt [byte n, levelCode x, levelCode y] 2) = some y := levelOfCode_levelCode y
  rw [takeLineConfig, if_neg (by simp), idAt_byte_fin8, hx, hy]
  dsimp only
  rw [setLine_lines_self]
  refine if_ctx_congr Iff.rfl (fun _ => rfl) fun _ => if_ctx_congr Iff.rfl (fun _ => rfl) fun _ =>
    if_ctx_congr Iff.rfl (fun _ => rfl) fun hheld => ?_
  have hdriven : LineRec.driven { d.lines[n] with restLevel := x, safeLevel := y, shadow := .rest } = x :=
    if_neg hheld
  rw [hdriven]
  rfl

/-- Settles O38: each request refuses arguments out of range, and then goes by the record of its line. -/
theorem lineSetAndConfig : Obligations.LineSetAndConfig := by
  constructor
  · intro s tag n a b p hready refused
    exact ⟨fun hlen => exec_taken hready .lineSet tag (if_pos hlen),
      fun hlen => exec_taken hready .lineConfig tag (if_pos hlen),
      fun h => exec_taken hready .lineSet tag (takeLineSet_badArg h _),
      fun h => exec_taken hready .lineConfig tag (takeLineConfig_badArg h _)⟩
  · intro s tag a b n x y hready ha hb l locked held active
    subst ha hb
    have hset := takeLineSet_line x s.toDevice n
    have hconfig := takeLineConfig_line x y s.toDevice n
    rw [driven_ofLevel] at hset
    refine ⟨fun hfree => ?_, fun hbound => ?_, fun hlock => ?_, fun hlock hbound => ?_, fun hlock hfree hheld => ?_,
      fun hlock hfree hheld => ?_⟩
    · rw [if_neg (Option.not_isSome_iff_eq_none.2 hfree)] at hset
      exact exec_taken hready .lineSet tag hset
    · rw [if_pos (Option.isSome_iff_ne_none.2 hbound)] at hset
      exact exec_taken hready .lineSet tag hset
    · rw [if_pos (lineLocked_iff.2 hlock)] at hconfig
      exact exec_taken hready .lineConfig tag hconfig
    · rw [if_neg (mt lineLocked_iff.1 hlock), if_pos (Option.isSome_iff_ne_none.2 hbound)] at hconfig
      exact exec_taken hready .lineConfig tag hconfig
    · rw [if_neg (mt lineLocked_iff.1 hlock), if_neg (Option.not_isSome_iff_eq_none.2 hfree),
        if_pos (heldSafe_iff.2 hheld)] at hconfig
      exact exec_taken hready .lineConfig tag hconfig
    · rw [if_neg (mt lineLocked_iff.1 hlock), if_neg (Option.not_isSome_iff_eq_none.2 hfree),
        if_neg (mt heldSafe_iff.1 hheld)] at hconfig
      exact exec_taken hready .lineConfig tag hconfig

end Sys2Proof.Machine
end

section
/-! LINE_HOLD and LINE_UNHOLD (R133, R134). -/

namespace Sys2Proof.Machine

/-- Each of the two requests makes its change to the holders and reports them (R133, R134). -/
theorem takeHold_taken (hold : Bool) (set : Byte) (d : Device) :
    takeRequest (if hold then .lineHold else .lineUnhold) [set] d =
      (d.setHostHold hold set, 0x00 :: holdReply (d.setHostHold hold set)) := by
  have hset : byte (byteAt [set] 0) = set := byte_toNat set
  calc takeRequest (if hold then .lineHold else .lineUnhold) [set] d
      = (d.setHostHold hold (byte (byteAt [set] 0)),
          0x00 :: holdReply (d.setHostHold hold (byte (byteAt [set] 0)))) := by
        cases hold <;> rfl
    _ = (d.setHostHold hold set, 0x00 :: holdReply (d.setHostHold hold set)) := by rw [hset]

theorem takeHold_badLength (hold : Bool) {p : List Byte} (h : p.length ≠ 1) (d : Device) :
    takeRequest (if hold then .lineHold else .lineUnhold) p d = (d, [0x11]) := by
  cases hold <;> exact if_pos h

/-- A hold of HOST leaves the levels and the shadow of every line (R133, R134). -/
theorem driven_setHostHold (hold : Bool) (set : BitVec 8) (d : Device) (n : Fin 8) :
    (d.setHostHold hold set).lines[n].driven =
      if (d.setHostHold hold set).lines[n].watchHolders ≠ 0 ∨
          (d.setHostHold hold set).lines[n].hostHolder = true then d.lines[n].safeLevel
      else match d.lines[n].shadow with
        | .rest => d.lines[n].restLevel
        | .active => if d.lines[n].restLevel = .low then .high else .low := by
  rw [driven_eq, Device.setHostHold_line]
  cases inSet set n <;> rfl

/-- Settles O39: the change is `Device.setHostHold`, and the bits of the reply are the lines' holders. -/
theorem lineHoldAndUnhold : Obligations.LineHoldAndUnhold := by
  intro s tag set hold hready q lines d
  have hrunning : s.mode = .running := hready.1
  refine ⟨fun p hlen => exec_taken hready q tag (takeHold_badLength hold hlen _),
    setOf (fun n => d.lines[n].hostHolder), setOf (fun n => d.lines[n].heldSafe),
    exec_taken hready q tag (takeHold_taken hold set s.toDevice), setOf_getLsbD _, fun n => ?_, fun n => ?_⟩
  · rw [setOf_getLsbD]
    exact Bool.eq_iff_iff.2 (heldSafe_iff.trans decide_eq_true_iff.symm)
  · exact (outPin_running (by exact hrunning) n).trans (driven_setHostHold hold set s.toDevice n)

end Sys2Proof.Machine
end

section
/-! LINE_QUERY and INPUT_QUERY (R135, R150). -/

namespace Sys2Proof.Machine

/-- Either query is of one byte (R135, R150). -/
theorem takeQuery_badLength {q : Request} (hq : q ∈ [Request.lineQuery, .inputQuery]) {p : List Byte}
    (h : p.length ≠ 1) (d : Device) : takeRequest q p d = (d, 0x11 :: p.take 1) := by
  simp only [List.mem_cons, List.not_mem_nil, or_false] at hq
  rcases hq with rfl | rfl <;> exact if_pos h

/-- Either query names a line of the eight (R188). -/
theorem takeQuery_badArg {q : Request} (hq : q ∈ [Request.lineQuery, .inputQuery]) {n : Byte} (h : 7 < n.toNat)
    (d : Device) : takeRequest q [n] d = (d, [0x12, n]) := by
  have hid : idAt 8 [n] 0 = none := idAt_none (by exact h)
  simp only [List.mem_cons, List.not_mem_nil, or_false] at hq
  rcases hq with rfl | rfl
  · show takeLineQuery [n] d = _
    rw [takeLineQuery, if_neg (by simp), hid]
    rfl
  · show takeInputQuery [n] d = _
    rw [takeInputQuery, if_neg (by simp), hid]
    rfl

theorem takeLineQuery_line (d : Device) (n : Fin 8) :
    takeLineQuery [byte n] d =
      (d, [0x00, byte n, levelCode d.lines[n].restLevel, levelCode d.lines[n].safeLevel, d.lines[n].shadow.code,
          levelCode d.lines[n].driven, optByte (d.lines[n].binding.map Fin.val)] ++
        beBytes 2 d.lines[n].watchHolders.toNat ++ [boolCode d.lines[n].hostHolder] ++
        (optInstant d.lines[n].pulseEnd ++ beBytes 2 ((d.lines[n].pulseEnd.map d.timeLeft).getD 0)) ++
        beBytes 2 (d.locking n).toNat ++
        [levelCode d.rsto, optByte ((d.dueOf .rstoPulse).map d.timeLeft), levelCode d.faultPin]) := by
  rw [takeLineQuery, if_neg (by simp), idAt_byte_fin8, ← List.append_assoc _ (optInstant _)]
  rfl

theorem takeInputQuery_line (d : Device) (n : Fin 8) :
    takeInputQuery [byte n] d =
      (d, [0x00, byte n, levelCode d.inputs[n].raw, levelCode d.inputs[n].filtered, byte d.inputs[n].run,
          byte d.inputs[n].width] ++ d.inputs[n].role.fields ++ beBytes 2 d.inputs[n].edges) := by
  rw [takeInputQuery, if_neg (by simp), idAt_byte_fin8]
  rfl

/-- The pulse end of a line and the time left to it (Table 11-10). -/
theorem pulseFields_eq (d : Device) (pulseEnd : Option Nat) :
    optInstant pulseEnd ++ beBytes 2 ((pulseEnd.map d.timeLeft).getD 0) =
      match pulseEnd with
      | some t => 0x01 :: beBytes 6 t ++ beBytes 2 (t - d.elapsed)
      | none => [0x00, 0, 0, 0, 0, 0, 0, 0, 0] := by
  cases pulseEnd with
  | some t => rfl
  | none =>
    have hleft : beBytes 2 0 = [0, 0] := by decide
    rw [Option.map_none, Option.getD_none, optInstant_none, hleft]
    rfl

/-- The time left of the RSTO pulse (Table 11-10). -/
theorem rstoLeft_eq (d : Device) :
    optByte ((d.dueOf .rstoPulse).map d.timeLeft) =
      match d.entryOf .rstoPulse with
      | some e => byte (e.due.toNat - d.elapsed)
      | none => 0xFF := by
  rw [Device.dueOf]
  cases d.entryOf .rstoPulse <;> rfl

/-- Settles O40: both replies are laid out by the definitions, and the locking watches are those of `locking_iff`. -/
theorem lineAndInputQueriesReport : Obligations.LineAndInputQueriesReport := by
  constructor
  · intro s tag n p hready q hq
    exact ⟨fun hlen => exec_taken hready q tag (takeQuery_badLength hq hlen _),
      fun hn => exec_taken hready q tag (takeQuery_badArg hq hn _)⟩
  · intro s tag n hready l i
    have hrunning : s.mode = .running := hready.1
    refine ⟨⟨fun w => locking_iff, ?_⟩, ?_⟩
    · have htake := takeLineQuery_line s.toDevice n
      rw [pulseFields_eq, rstoLeft_eq, ← outPin_running hrunning] at htake
      refine (exec_taken hready .lineQuery tag htake).trans ?_
      cases s.lines[n].binding <;> rfl
    · refine (exec_taken hready .inputQuery tag (takeInputQuery_line s.toDevice n)).trans ?_
      cases s.inputs[n].role <;> rfl

end Sys2Proof.Machine
end

section
/-! The ends of the pulses on the output lines and on RSTO (R127, R136). -/

namespace Sys2Proof.Machine

/-- An expiry command of the kind of the due head is its hand-over (R11). -/
theorem whileRunning_handOver {s : State} {e : Entry} (hm : s.mode = .running) (he : s.toDevice.headDue = some e)
    {want : Entry → Bool} (hw : want e = true) :
    whileRunning (Device.expiryOf want) s = .next (s.become (s.toDevice.handOver e)) := by
  have hexpiry : s.toDevice.expiryOf want = s.toDevice.handOver e := by
    rw [Device.expiryOf, he]
    exact if_pos hw
  rw [whileRunning_running hm, hexpiry]

theorem handOver_pulse {e : Entry} {n : Fin 8} (ho : e.owner = .pulse n) (d : Device) :
    d.handOver e = ((d.takeOwner (.pulse n)).endPulse n).pump := by
  rw [Device.handOver, Device.ownerWork, ho]

theorem handOver_rstoPulse {e : Entry} (ho : e.owner = .rstoPulse) (d : Device) :
    d.handOver e = (d.takeOwner .rstoPulse).pump := by
  rw [Device.handOver, Device.ownerWork, ho]

/-- With no RSTO pulse in flight RSTO is HIGH (R136), and in a reset it is too (R138). -/
theorem rsto_high {d : Device} (h : d.entryOf .rstoPulse = none) : d.rsto = .high := by
  rw [Device.rsto, h]
  exact ite_self _

/-- Settles O41: the hand-over of the due head, by its owner. -/
theorem pulsesEnd : Obligations.PulsesEnd := by
  refine fun s e hm he => ⟨fun n ho => ?_, fun ho => ⟨?_, rsto_high (Device.entryOf_takeOwner_self _ _)⟩⟩
  · refine (whileRunning_handOver hm he ?_).trans (by rw [handOver_pulse ho]; rfl)
    rw [Entry.ofPulse, ho]
  · refine (whileRunning_handOver hm he ?_).trans (by rw [handOver_rstoPulse ho])
    rw [ho, beq_self_eq_true]

end Sys2Proof.Machine
end

section
/-! INPUT_CONFIG (R147, R148). -/

namespace Sys2Proof.Machine

/-- The roles that claim their line (R143). -/
theorem isClaim_iff {role : Role} : role.isClaim = true ↔ (∃ w, role = .checkin w) ∨ ∃ t, role = .count t := by
  cases role <;> simp [Role.isClaim]

/-! ### The role of a payload -/

theorem actOfCode_none {k : Nat} (h : 1 < k) : TriggerAct.ofCode k = none := by
  obtain ⟨n, rfl⟩ := Nat.exists_eq_add_of_lt h
  rw [show 1 + n + 1 = n + 2 by omega]
  rfl

theorem ofCode_actCode (a : TriggerAct) : TriggerAct.ofCode a.code.toNat = some a := by
  cases a <;> rfl

/-- A role code other than NONE and TRIGGER gives no role (R148). -/
theorem parseRole_badCode {p : List Byte} (h0 : byteAt p 1 ≠ 0) (h2 : byteAt p 1 ≠ 2) : parseRole p = none := by
  unfold parseRole
  split
  · next h => exact absurd h h0
  · next h => exact absurd h h2
  · rfl

theorem parseRole_trigger {p : List Byte} {t : Fin 24} {e : Edge} {a : TriggerAct} (h2 : byteAt p 1 = 2)
    (ht : idAt 24 p 3 = some t) (he : Edge.ofCode (byteAt p 4) = some e)
    (ha : TriggerAct.ofCode (byteAt p 5) = some a) : parseRole p = some (.trigger t e a) := by
  unfold parseRole
  rw [h2, ht, he, ha]
  rfl

/-- Role TRIGGER with a timer above 23, or with an edge or an act without a code, is no role (R148). -/
theorem parseRole_trigger_none {p : List Byte} (h2 : byteAt p 1 = 2)
    (h : 23 < byteAt p 3 ∨ 2 < byteAt p 4 ∨ 1 < byteAt p 5) : parseRole p = none := by
  simp only [parseRole, h2]
  split
  · next ht he ha =>
    rcases h with h | h | h
    · rw [idAt_none h] at ht
      cases ht
    · rw [edgeOfCode_none h] at he
      cases he
    · rw [actOfCode_none h] at ha
      cases ha
  · rfl

/-! ### The checks in their order -/

/-- The length that the role code selects passes both length checks (R191). -/
theorem inputConfig_fits {p : List Byte} (h : p.length = inputConfigLength p) :
    ¬(p.length < 2 ∨ p.length ≠ inputConfigLength p) := by
  have hmin : 2 ≤ inputConfigLength p := by
    unfold inputConfigLength
    split <;> decide
  omega

/-- A payload of the length that its role code selects, of a line above 7 or without a role (R148). -/
theorem takeInputConfig_badArg {p : List Byte} (hlen : p.length = inputConfigLength p)
    (h : 7 < byteAt p 0 ∨ parseRole p = none) (d : Device) : takeInputConfig p d = (d, 0x12 :: p.take 1) := by
  rw [takeInputConfig, if_neg (inputConfig_fits hlen)]
  split
  · next hid hrole =>
    rcases h with h | h
    · rw [idAt_none (by exact h)] at hid
      cases hid
    · rw [h] at hrole
      cases hrole
  · rfl

/-- INPUT_CONFIG of a line with a role goes by the width, the timer the role names and the claim on the line, in this
order (R147, R148). -/
theorem takeInputConfig_line {n : Fin 8} {q : List Byte} {role : Role}
    (hlen : (byte n :: q).length = inputConfigLength (byte n :: q)) (hrole : parseRole (byte n :: q) = some role)
    (d : Device) :
    takeInputConfig (byte n :: q) d =
      if 15 < byteAt q 1 then (d, [0x12, byte n])
      else if d.roleTargetFree role then (d, [0x13, byte n])
      else if d.inputs[n].role.isClaim then (d, [0x14, byte n])
      else (d.setInput n { d.inputs[n] with role := role, width := byteAt q 1 },
        [0x00, byte n] ++ role.fields ++ [byte (byteAt q 1), levelCode d.inputs[n].filtered]) := by
  rw [takeInputConfig, if_neg (inputConfig_fits hlen), idAt_byte_fin8, hrole, byteAt_cons_succ]
  rfl

theorem takeInputConfig_roleNone (width : Byte) (d : Device) (n : Fin 8) :
    takeInputConfig [byte n, 0x00, width] d =
      if 15 < width.toNat then (d, [0x12, byte n])
      else if d.inputs[n].role.isClaim then (d, [0x14, byte n])
      else (d.setInput n { d.inputs[n] with role := .none, width := width.toNat },
        [0x00, byte n, 0x00, 0xFF, 0xFF, 0xFF, width, levelCode d.inputs[n].filtered]) := by
  have htake := takeInputConfig_line (n := n) (q := [0x00, width]) rfl rfl d
  rw [show byteAt [0x00, width] 1 = width.toNat from rfl, byte_toNat] at htake
  exact htake

theorem takeInputConfig_roleTrigger (width : Byte) (t : Fin 24) (e : Edge) (a : TriggerAct) (d : Device) (n : Fin 8) :
    takeInputConfig [byte n, 0x02, width, byte t, e.code, a.code] d =
      if 15 < width.toNat then (d, [0x12, byte n])
      else if d.timers[t].isNone then (d, [0x13, byte n])
      else if d.inputs[n].role.isClaim then (d, [0x14, byte n])
      else (d.setInput n { d.inputs[n] with role := .trigger t e a, width := width.toNat },
        [0x00, byte n, 0x02, byte t, e.code, a.code, width, levelCode d.inputs[n].filtered]) := by
  have htake := takeInputConfig_line (n := n) (q := [0x02, width, byte t, e.code, a.code]) rfl
    (parseRole_trigger rfl (idAt_byte_fin24 t []) (ofCode_edgeCode e) (ofCode_actCode a)) d
  rw [show byteAt [0x02, width, byte t, e.code, a.code] 1 = width.toNat from rfl, byte_toNat] at htake
  exact htake

/-- Settles O42: arguments out of range give no line or no role, and the others go by the checks in their order. -/
theorem inputConfigSetsRole : Obligations.InputConfigSetsRole := by
  intro s tag width n t e a hready i claimed plain trigger refused set
  have hplain := takeInputConfig_roleNone width s.toDevice n
  have htrigger := takeInputConfig_roleTrigger width t e a s.toDevice n
  have taken {p : List Byte} {d : Device} {reply : List Byte} (h : takeInputConfig p s.toDevice = (d, reply)) :
      exec (.inputConfig tag p) s = .next (s.answers d .inputConfig tag reply) :=
    exec_taken hready .inputConfig tag h
  have hdefined (h : s.timers[t].isSome) : ¬s.timers[t].isNone := by simpa [Option.isSome_iff_ne_none] using h
  refine ⟨fun m timer edge act hm p hp => ?_, fun timer edge act h => ?_, fun hw => ⟨?_, ?_⟩,
    fun code h0 h2 => ?_, fun hw ht => ?_, fun hw hc => ⟨?_, fun ht => ?_⟩, fun hw hc => ⟨?_, fun ht => ?_⟩⟩
  · simp only [List.mem_cons, List.not_mem_nil, or_false] at hp
    rcases hp with rfl | rfl <;> exact taken (takeInputConfig_badArg rfl (.inl (by exact hm)) _)
  · exact taken (takeInputConfig_badArg rfl (.inr (parseRole_trigger_none rfl (by exact h))) _)
  · exact taken (hplain.trans (if_pos hw))
  · exact taken (htrigger.trans (if_pos hw))
  · have hcode : byteAt [byte n, code, width] 1 ≠ 2 := fun h => h2 (BitVec.eq_of_toNat_eq h)
    have hzero : byteAt [byte n, code, width] 1 ≠ 0 := fun h => h0 (BitVec.eq_of_toNat_eq h)
    have hlen : inputConfigLength [byte n, code, width] = 3 := if_neg hcode
    exact taken (takeInputConfig_badArg (p := [byte n, code, width]) hlen.symm (.inr (parseRole_badCode hzero hcode)) _)
  · rw [if_neg (Nat.not_lt.2 hw), if_pos (Option.isNone_iff_eq_none.2 ht)] at htrigger
    exact taken htrigger
  · rw [if_neg (Nat.not_lt.2 hw), if_pos (isClaim_iff.2 hc)] at hplain
    exact taken hplain
  · rw [if_neg (Nat.not_lt.2 hw), if_neg (hdefined ht), if_pos (isClaim_iff.2 hc)] at htrigger
    exact taken htrigger
  · rw [if_neg (Nat.not_lt.2 hw), if_neg (mt isClaim_iff.1 hc)] at hplain
    exact taken hplain
  · rw [if_neg (Nat.not_lt.2 hw), if_neg (hdefined ht), if_neg (mt isClaim_iff.1 hc)] at htrigger
    exact taken htrigger

end Sys2Proof.Machine
end

section
/-! The notice queue: which notices its searches find, and what appending one does (R155 to R157). -/

namespace Sys2Proof.Machine

/-! ### Notices by state -/

theorem isSent_eq_true {n : Notice} : n.isSent = true ↔ ∃ seq mark, n.state = .sent seq mark := by
  unfold Notice.isSent
  cases n.state <;> simp

theorem isSent_eq_false {n : Notice} : n.isSent = false ↔ n.state = .unsent := by
  unfold Notice.isSent
  cases n.state <;> simp

theorem isMarked_eq_true {n : Notice} : n.isMarked = true ↔ ∃ seq, n.state = .sent seq true := by
  unfold Notice.isMarked
  cases n.state <;> simp

theorem hasSeq_eq_true {n : Notice} {s : Nat} : n.hasSeq s = true ↔ ∃ mark, n.state = .sent s mark := by
  unfold Notice.hasSeq
  cases n.state <;> simp

theorem hasSeq_eq_false {n : Notice} {s : Nat} : n.hasSeq s = false ↔ ∀ mark, n.state ≠ .sent s mark := by
  rw [← Bool.not_eq_true, hasSeq_eq_true, not_exists]

theorem unsentOf_eq_true {n : Notice} {c : NoticeClass} :
    n.unsentOf c = true ↔ n.state = .unsent ∧ n.body.cls = c := by
  simp [Notice.unsentOf, isSent_eq_false]

theorem unsentOf_eq_false {n : Notice} {c : NoticeClass} :
    n.unsentOf c = false ↔ (n.state = .unsent → n.body.cls ≠ c) := by
  rw [← Bool.not_eq_true, unsentOf_eq_true, not_and]

/-! ### The first with a property -/

/-- Either no element has the property, or the list splits at the first that has. -/
theorem exists_first {α : Type} (p : α → Bool) (l : List α) :
    (∀ x ∈ l, p x = false) ∨
      ∃ older x newer, l = older ++ x :: newer ∧ (∀ y ∈ older, p y = false) ∧ p x = true := by
  cases h : l.find? p with
  | none => exact .inl fun x hx => by simpa using List.find?_eq_none.mp h x hx
  | some x =>
    obtain ⟨hx, older, newer, hl, ho⟩ := List.find?_eq_some_iff_append.mp h
    exact .inr ⟨older, x, newer, hl, fun y hy => by simpa using ho y hy, hx⟩

/-! ### Displacement -/

/-- What is displaced is an UNSENT notice; the others keep their order (R156). -/
theorem displaced_eq_some {c : NoticeClass} {q rest : List Notice} {gone : Notice}
    (h : displaced c q = some (gone, rest)) :
    ∃ older newer, q = older ++ gone :: newer ∧ rest = older ++ newer ∧ gone.state = .unsent := by
  have removed {k : NoticeClass} (h : removeLast (Notice.unsentOf k) q = some (gone, rest)) :
      ∃ older newer, q = older ++ gone :: newer ∧ rest = older ++ newer ∧ gone.state = .unsent := by
    obtain ⟨older, newer, hq, hrest, hgone, -⟩ := removeLast_eq_some.mp h
    exact ⟨older, newer, hq, hrest, (unsentOf_eq_true.mp hgone).1⟩
  cases c with
  | routine => cases h
  | alert => exact removed h
  | alarm =>
    unfold displaced at h
    dsimp only at h
    split at h
    · next hr => exact removed (hr.trans h)
    · exact removed h

/-- No notice of the class is UNSENT. -/
def noneUnsent (c : NoticeClass) (q : List Notice) : Prop := ∀ n ∈ q, n.state = .unsent → n.body.cls ≠ c

theorem removeLast_unsentOf_eq_none {c : NoticeClass} {q : List Notice} :
    removeLast (Notice.unsentOf c) q = none ↔ noneUnsent c q :=
  removeLast_eq_none.trans (forall₂_congr fun _ _ => unsentOf_eq_false)

theorem removeLast_unsentOf {c : NoticeClass} {older newer : List Notice} {gone : Notice}
    (hs : gone.state = .unsent) (hc : gone.body.cls = c) (hn : noneUnsent c newer) :
    removeLast (Notice.unsentOf c) (older ++ gone :: newer) = some (gone, older ++ newer) :=
  removeLast_eq_some.mpr
    ⟨older, newer, rfl, rfl, unsentOf_eq_true.mpr ⟨hs, hc⟩, fun n h => unsentOf_eq_false.mpr (hn n h)⟩

/-- With no UNSENT ROUTINE notice an ALARM displaces an ALERT one (R156). -/
theorem displaced_alarm {q : List Notice} (h : noneUnsent .routine q) :
    displaced .alarm q = removeLast (Notice.unsentOf .alert) q := by
  rw [displaced, removeLast_unsentOf_eq_none.mpr h]

/-- Every class but ROUTINE displaces ROUTINE notices first (R156). -/
theorem displaced_of_routine {c : NoticeClass} (hc : c ≠ .routine) {q : List Notice} {r : Notice × List Notice}
    (h : removeLast (Notice.unsentOf .routine) q = some r) : displaced c q = some r := by
  cases c with
  | routine => exact absurd rfl hc
  | alert => exact h
  | alarm => rw [displaced, h]

/-! ### Appending -/

theorem append_room {q : NoticeQueue} (h : q.queue.length < 32) (body : NoticeBody) (instant : Nat) :
    q.append body instant =
      { q with queue := q.queue ++ [Notice.mk body instant q.pendingLoss .unsent 0], pendingLoss := 0 } :=
  if_pos h

theorem append_displaces {q : NoticeQueue} (h : 32 ≤ q.queue.length) {body : NoticeBody} {gone : Notice}
    {rest : List Notice} (hd : displaced body.cls q.queue = some (gone, rest)) (instant : Nat) :
    q.append body instant =
      { q with
        queue := rest ++ [Notice.mk body instant (min (q.pendingLoss + (1 + gone.lostBefore)) 65535) .unsent 0]
        pendingLoss := 0 } := by
  refine (if_neg (Nat.not_lt.mpr h)).trans ?_
  rw [hd]
  rfl

theorem append_drops {q : NoticeQueue} (h : 32 ≤ q.queue.length) {body : NoticeBody}
    (hd : displaced body.cls q.queue = none) (instant : Nat) :
    q.append body instant = { q with pendingLoss := min (q.pendingLoss + 1) 65535 } := by
  refine (if_neg (Nat.not_lt.mpr h)).trans ?_
  rw [hd]
  rfl

/-- All that an append can do (R155, R156): the newcomer is the newest, with room or in an UNSENT notice's stead, or it
is dropped. -/
theorem append_cases (q : NoticeQueue) (body : NoticeBody) (instant : Nat) :
    (q.queue.length < 32 ∧ q.append body instant =
      { q with queue := q.queue ++ [Notice.mk body instant q.pendingLoss .unsent 0], pendingLoss := 0 }) ∨
    (32 ≤ q.queue.length ∧ ∃ older gone newer, q.queue = older ++ gone :: newer ∧ gone.state = .unsent ∧
      q.append body instant =
        { q with
          queue := older ++ newer ++
            [Notice.mk body instant (min (q.pendingLoss + (1 + gone.lostBefore)) 65535) .unsent 0]
          pendingLoss := 0 }) ∨
    (32 ≤ q.queue.length ∧ q.append body instant = { q with pendingLoss := min (q.pendingLoss + 1) 65535 }) := by
  rcases Nat.lt_or_ge q.queue.length 32 with h | h
  · exact .inl ⟨h, append_room h body instant⟩
  · cases hd : displaced body.cls q.queue with
    | none => exact .inr (.inr ⟨h, append_drops h hd instant⟩)
    | some r =>
      obtain ⟨older, newer, hq, hrest, hs⟩ := displaced_eq_some hd
      exact .inr (.inl ⟨h, older, r.1, newer, hq, hs, hrest ▸ append_displaces h hd instant⟩)

/-- A full queue stays full. -/
theorem append_length_full {q : NoticeQueue} (h : q.queue.length = 32) (body : NoticeBody) (instant : Nat) :
    (q.append body instant).queue.length = 32 := by
  rcases append_cases q body instant with ⟨hlt, -⟩ | ⟨-, older, gone, newer, hq, -, ha⟩ | ⟨-, ha⟩
  · omega
  · rw [hq, List.length_append, List.length_cons] at h
    simp only [ha, List.length_append, List.length_singleton]
    omega
  · rw [ha]
    exact h

/-- The losses that the queue accounts for: the pending ones, and those its notices tell of (R157). -/
def NoticeQueue.losses (q : NoticeQueue) : Nat := q.pendingLoss + (q.queue.map Notice.lostBefore).sum

/-- Below saturation every notice appended stands in the queue or is counted as lost (R157). -/
theorem append_length_add_losses {q : NoticeQueue} (hl : q.losses < 65535) (body : NoticeBody) (instant : Nat) :
    (q.append body instant).queue.length + (q.append body instant).losses = q.queue.length + q.losses + 1 := by
  unfold NoticeQueue.losses at *
  rcases append_cases q body instant with ⟨-, ha⟩ | ⟨-, older, gone, newer, hq, -, ha⟩ | ⟨-, ha⟩
  · simp only [ha, List.length_append, List.length_singleton, List.map_append, List.map_singleton, List.sum_append,
      List.sum_singleton]
    omega
  · simp only [hq, List.map_append, List.map_cons, List.sum_append, List.sum_cons] at hl
    simp only [ha, hq, List.length_append, List.length_cons, List.length_nil, List.map_append, List.map_cons,
      List.map_nil, List.sum_append, List.sum_cons, List.sum_nil]
    omega
  · simp only [ha]
    omega

/-- Settles O46: by what `displaced` finds in a full queue, and the balance of each outcome of an append. -/
theorem appendKeepsCountOfLosses : Obligations.AppendKeepsCountOfLosses := by
  intro q body instant losses
  refine ⟨fun h => append_room h body instant, fun h => ⟨fun hnone => ?_, fun c older newer gone hc hq hs hg hn => ?_,
    append_length_full h body instant⟩, fun _ hl => append_length_add_losses hl body instant⟩
  · refine append_drops h.ge ?_ instant
    rcases hnone with hb | ⟨hb, hr⟩ | ⟨hb, hr⟩
    · rw [hb, displaced]
    · rw [hb]
      exact removeLast_unsentOf_eq_none.mpr hr
    · rw [hb, displaced_alarm fun n hn hs => (hr n hn hs).1]
      exact removeLast_unsentOf_eq_none.mpr fun n hn hs => (hr n hn hs).2
  · refine append_displaces h.ge ?_ instant
    have hlast := removeLast_unsentOf (older := older) hs hg hn
    rw [← hq] at hlast
    rcases hc with ⟨rfl, hb⟩ | ⟨rfl, hb, hr⟩
    · exact displaced_of_routine hb hlast
    · rw [hb, displaced_alarm hr, hlast]

end Sys2Proof.Machine
end

section
/-! What the arbiter sends of the notice queue, what NOTICE_ACK removes and what the resend deadline marks (R158 to
R162). -/

namespace Sys2Proof.Machine

/-! ### Sending -/

section
variable {d : Device} {older newer : List Notice} {n : Notice}

/-- A marked SENT notice goes again before an UNSENT one (R160). -/
theorem sendNotice_marked (hq : d.notices.queue = older ++ n :: newer) (holder : ∀ o ∈ older, o.isMarked = false)
    (hn : n.isMarked = true) :
    d.sendNotice =
      { d with
        notices := { d.notices with queue := older ++ n.resent :: newer }
        link := { d.link with transmitting := some n.resent.frame } } := by
  rw [Device.sendNotice, hq, updateFirst_append holder hn]
  rfl

/-- With none marked and fewer than 4 SENT the oldest UNSENT notice goes, and the resend deadline runs (R159). -/
theorem sendNotice_unsent (hnone : ∀ o ∈ d.notices.queue, o.isMarked = false)
    (hfew : d.notices.queue.countP Notice.isSent < 4) (hq : d.notices.queue = older ++ n :: newer)
    (holder : ∀ o ∈ older, o.isSent = true) (hn : n.state = .unsent) :
    let n' := n.firstSent d.notices.nextSeq
    let d' : Device := { d with
      notices := { d.notices with queue := older ++ n' :: newer, nextSeq := (d.notices.nextSeq + 1) % 256 }
      link := { d.link with transmitting := some n'.frame } }
    d.sendNotice = if (d.entryOf .resend).isSome then d' else d'.insertEntry .resend (d.elapsed + 250) none := by
  have hfirst := updateFirst_append (p := fun n => !n.isSent) (f := Notice.firstSent d.notices.nextSeq)
    (older := older) (newer := newer) (fun o ho => by simp [holder o ho])
    (show (!n.isSent) = true by simp [isSent_eq_false.mpr hn])
  rw [← hq] at hfirst
  intro n' d'
  unfold Device.sendNotice
  rw [updateFirst_eq_none.mpr hnone, hfirst]
  refine (if_pos hfew).trans ?_
  dsimp only
  by_cases hr : (d.entryOf .resend).isSome = true
  · rw [if_pos hr]
    exact congrArg (Device.transmit n'.frame) (if_pos hr)
  · rw [if_neg hr]
    exact congrArg (Device.transmit n'.frame) (if_neg hr)

/-- With none marked, a full window or no UNSENT notice, the transmitter is left as it is (R158, R159). -/
theorem sendNotice_none (hnone : ∀ o ∈ d.notices.queue, o.isMarked = false)
    (h : 4 ≤ d.notices.queue.countP Notice.isSent ∨ ∀ o ∈ d.notices.queue, o.isSent = true) : d.sendNotice = d := by
  unfold Device.sendNotice
  rw [updateFirst_eq_none.mpr hnone]
  rcases h with h | h
  · exact if_neg (Nat.not_lt.mpr h)
  · rw [updateFirst_eq_none.mpr fun o ho => by simp [h o ho]]
    exact ite_self _

end

/-! ### Acknowledging -/

/-- A number that no SENT notice carries is stale (R162). -/
theorem takeNoticeAck_stale {d : Device} {seq : Byte} (h : ∀ n ∈ d.notices.queue, n.hasSeq seq.toNat = false) :
    takeNoticeAck [seq] d =
      (d, [0x1C, 0x00, byte (d.notices.queue.countP Notice.isSent), byte d.notices.queue.length]) := by
  have hdrop : dropThrough (Notice.hasSeq (byteAt [seq] 0)) d.notices.queue = none := dropThrough_eq_none h
  rw [takeNoticeAck, hdrop]
  rfl

/-- The first SENT notice of the number and every older one leave, and the resend deadline with the last SENT one
(R162). -/
theorem takeNoticeAck_removes {d : Device} {seq : Byte} {older newer : List Notice} {n : Notice}
    (hq : d.notices.queue = older ++ n :: newer) (holder : ∀ o ∈ older, o.hasSeq seq.toNat = false)
    (hn : n.hasSeq seq.toNat = true) :
    let d' : Device := { d with notices := { d.notices with queue := newer } }
    takeNoticeAck [seq] d =
      (if 0 < newer.countP Notice.isSent then d'.insertEntry .resend (d.elapsed + 250) none
        else { d' with deadlines := d.deadlines.filter (fun e => e.owner ≠ .resend) },
        [0x00, byte (older.length + 1), byte (newer.countP Notice.isSent), byte newer.length]) := by
  have hdrop : dropThrough (Notice.hasSeq (byteAt [seq] 0)) d.notices.queue = some (older.length + 1, newer) := by
    rw [hq]
    exact dropThrough_append holder hn
  rw [takeNoticeAck, hdrop, ← removeOwner_eq_filter]
  intro d'
  by_cases hpos : 0 < newer.countP Notice.isSent
  · rw [if_pos hpos]
    exact congrArg (fun x : Device => (x, Status.ok.code :: ackCounts (older.length + 1) x)) (if_pos hpos)
  · rw [if_neg hpos]
    exact congrArg (fun x : Device => (x, Status.ok.code :: ackCounts (older.length + 1) x)) (if_neg hpos)

/-! ### Marking -/

/-- The hand-over of the resend deadline with a SENT notice (R161), -/
theorem resendDeadline_sent {d : Device} (h : 0 < d.notices.queue.countP Notice.isSent) :
    d.resendDeadline =
      ({ d with notices := { d.notices with queue := d.notices.queue.map Notice.marked } } : Device).insertEntry .resend
        (d.elapsed + 250) none :=
  if_pos h

/-- and with none. -/
theorem resendDeadline_none {d : Device} (h : d.notices.queue.countP Notice.isSent = 0) : d.resendDeadline = d :=
  if_neg (by rw [NoticeQueue.sentCount, h]; exact Nat.lt_irrefl 0)

theorem handOver_resend {e : Entry} (ho : e.owner = .resend) (d : Device) :
    d.handOver e = (d.takeOwner .resend).resendDeadline.pump := by
  rw [Device.handOver, Device.ownerWork, ho]

/-- Settles O45: what the number finds in the queue, and the hand-over of the due head. -/
theorem noticesAcknowledgedAndResent : Obligations.NoticesAcknowledgedAndResent := by
  refine ⟨fun s tag seq hready => ⟨fun hstale => ?_, fun older newer n mark hq hn holder => ?_⟩,
    fun s e hm he ho => ⟨fun hsent => ?_, fun hnone => ?_⟩⟩
  · exact exec_taken hready .noticeAck tag (takeNoticeAck_stale fun n hn => hasSeq_eq_false.mpr (hstale n hn))
  · have htake := takeNoticeAck_removes (d := s.toDevice) hq (fun o h => hasSeq_eq_false.mpr (holder o h))
      (hasSeq_eq_true.mpr ⟨mark, hn⟩)
    exact exec_taken hready .noticeAck tag htake
  · refine (whileRunning_handOver hm he (by rw [ho, beq_self_eq_true])).trans ?_
    rw [handOver_resend ho, resendDeadline_sent (by exact hsent)]
    have hmarked : Notice.marked = fun n : Notice => match n.state with
        | .sent seq _ => { n with state := .sent seq true }
        | .unsent => n := by
      funext n
      unfold Notice.marked
      cases n.state <;> rfl
    rw [hmarked]
    rfl
  · refine (whileRunning_handOver hm he (by rw [ho, beq_self_eq_true])).trans ?_
    rw [handOver_resend ho, resendDeadline_none (by exact hnone)]

end Sys2Proof.Machine
end

section
/-! The send window (R154): the SENT notices are the oldest and numbered in a row, and what each change of the notice
queue makes of them. -/

namespace Sys2Proof.Machine

/-! ### Numbers in a row -/

/-- The notices are SENT and carry the numbers from `first` on, modulo 256 (R159). -/
def NumberedFrom : Nat → List Notice → Prop
  | _, [] => True
  | first, n :: rest => (∃ mark, n.state = .sent (first % 256) mark) ∧ NumberedFrom (first + 1) rest

theorem numberedFrom_iff {first : Nat} {l : List Notice} :
    NumberedFrom first l ↔
      ∀ (i : Nat) (n : Notice), l[i]? = some n → ∃ mark, n.state = .sent ((first + i) % 256) mark := by
  induction l generalizing first with
  | nil => simp [NumberedFrom]
  | cons n l ih =>
    rw [NumberedFrom, ih]
    constructor
    · rintro ⟨hn, hl⟩ i m hm
      cases i with
      | zero =>
        obtain rfl := Option.some.inj hm
        exact hn
      | succ i =>
        rw [show first + (i + 1) = first + 1 + i by omega]
        exact hl i m hm
    · intro h
      refine ⟨h 0 n rfl, fun i m hm => ?_⟩
      rw [show first + 1 + i = first + (i + 1) by omega]
      exact h (i + 1) m hm

theorem numberedFrom_append {first : Nat} {l l' : List Notice} :
    NumberedFrom first (l ++ l') ↔ NumberedFrom first l ∧ NumberedFrom (first + l.length) l' := by
  induction l generalizing first with
  | nil => simp [NumberedFrom]
  | cons n l ih =>
    rw [List.cons_append, NumberedFrom, NumberedFrom, ih, and_assoc, List.length_cons, Nat.add_right_comm first,
      Nat.add_assoc]

theorem NumberedFrom.congr {first first' : Nat} (hf : first % 256 = first' % 256) {l : List Notice}
    (h : NumberedFrom first l) : NumberedFrom first' l := by
  rw [numberedFrom_iff] at *
  intro i n hn
  rw [Nat.add_mod, ← hf, ← Nat.add_mod]
  exact h i n hn

theorem NumberedFrom.isSent {first : Nat} {l : List Notice} (h : NumberedFrom first l) : ∀ n ∈ l, n.isSent = true := by
  intro n hn
  obtain ⟨i, hi⟩ := List.mem_iff_getElem?.mp hn
  obtain ⟨mark, hs⟩ := numberedFrom_iff.mp h i n hi
  exact isSent_eq_true.mpr ⟨_, mark, hs⟩

theorem Notice.marked_of_sent {n : Notice} {seq : Nat} {mark : Bool} (h : n.state = .sent seq mark) :
    n.marked = { n with state := .sent seq true } := by
  rw [Notice.marked, h]

theorem Notice.marked_of_unsent {n : Notice} (h : n.state = .unsent) : n.marked = n := by
  rw [Notice.marked, h]

theorem Notice.resent_of_sent {n : Notice} {seq : Nat} {mark : Bool} (h : n.state = .sent seq mark) :
    n.resent = { n with state := .sent seq false, attempts := min (n.attempts + 1) 65535 } := by
  rw [Notice.resent, h]
  rfl

/-- The mark of every notice leaves the numbers (R161). -/
theorem NumberedFrom.marked {first : Nat} {l : List Notice} (h : NumberedFrom first l) :
    NumberedFrom first (l.map Notice.marked) := by
  induction l generalizing first with
  | nil => trivial
  | cons n l ih =>
    obtain ⟨⟨mark, hn⟩, hl⟩ := h
    exact ⟨⟨true, by rw [Notice.marked_of_sent hn]⟩, ih hl⟩

/-! ### The window -/

/-- The queue is made of the SENT notices, at most 4 and numbered in a row up to next seq, and the UNSENT ones behind
them (R154). -/
structure NoticeQueue.Window (q : NoticeQueue) (sent unsent : List Notice) : Prop where
  queue : q.queue = sent ++ unsent
  room : q.queue.length ≤ 32
  few : sent.length ≤ 4
  nextSeq : q.nextSeq < 256
  numbered : NumberedFrom (q.nextSeq + 256 - sent.length) sent
  unsent : ∀ n ∈ unsent, n.state = .unsent

section
variable {q : NoticeQueue} {sent unsent : List Notice} (h : q.Window sent unsent)
include h

theorem NoticeQueue.Window.sentCount : q.sentCount = sent.length := by
  have hs : sent.countP Notice.isSent = sent.length := List.countP_eq_length.mpr h.numbered.isSent
  have hu : unsent.countP Notice.isSent = 0 :=
    List.countP_eq_zero.mpr fun n hn => by simp [isSent_eq_false.mpr (h.unsent n hn)]
  rw [NoticeQueue.sentCount, h.queue, List.countP_append, hs, hu, Nat.add_zero]

/-- An UNSENT notice of the queue stands behind the SENT ones. -/
theorem NoticeQueue.Window.split_unsent {older newer : List Notice} {n : Notice} (hq : q.queue = older ++ n :: newer)
    (hn : n.state = .unsent) : ∃ between, older = sent ++ between ∧ unsent = between ++ n :: newer := by
  rcases List.append_eq_append_iff.mp (h.queue.symm.trans hq) with ⟨between, ho, hu⟩ | ⟨rest, hs, hr⟩
  · exact ⟨between, ho, hu⟩
  · cases rest with
    | nil => exact ⟨[], by simpa using hs.symm, hr.symm⟩
    | cons m rest =>
      obtain ⟨rfl, -⟩ := List.cons.inj hr
      have hsent := h.numbered.isSent n (by simp [hs])
      rw [isSent_eq_false.mpr hn] at hsent
      cases hsent

/-- A SENT notice of the queue stands before the UNSENT ones. -/
theorem NoticeQueue.Window.split_sent {older newer : List Notice} {n : Notice} (hq : q.queue = older ++ n :: newer)
    (hn : n.isSent = true) : ∃ between, sent = older ++ n :: between ∧ newer = between ++ unsent := by
  have hmem : n ∉ unsent := fun hu => by
    rw [isSent_eq_false.mpr (h.unsent n hu)] at hn
    cases hn
  rcases List.append_eq_append_iff.mp (h.queue.symm.trans hq) with ⟨rest, -, hu⟩ | ⟨rest, hs, hr⟩
  · exact absurd (by simp [hu]) hmem
  · cases rest with
    | nil => exact absurd (by simp [← hr.trans (List.nil_append _)]) hmem
    | cons m rest =>
      obtain ⟨rfl, htail⟩ := List.cons.inj hr
      exact ⟨rest, hs, htail⟩

/-- An append leaves the SENT notices (R155, R156). -/
theorem NoticeQueue.Window.append (body : NoticeBody) (instant : Nat) :
    ∃ unsent', (q.append body instant).Window sent unsent' := by
  have newcomer {l : List Notice} {lost : Nat} (hl : ∀ n ∈ l, n.state = .unsent) :
      ∀ n ∈ l ++ [Notice.mk body instant lost .unsent 0], n.state = .unsent := fun n hn => by
    rcases List.mem_append.mp hn with hn | hn
    · exact hl n hn
    · rw [List.mem_singleton.mp hn]
  rcases append_cases q body instant with ⟨hlt, ha⟩ | ⟨hge, older, gone, newer, hq, hgone, ha⟩ | ⟨hge, ha⟩
  · refine ⟨unsent ++ [Notice.mk body instant q.pendingLoss .unsent 0], ?_⟩
    rw [ha]
    refine ⟨by rw [h.queue, List.append_assoc], ?_, h.few, h.nextSeq, h.numbered, newcomer h.unsent⟩
    rw [List.length_append]
    exact hlt
  · obtain ⟨between, rfl, hu⟩ := h.split_unsent hq hgone
    refine ⟨between ++ newer ++
      [Notice.mk body instant (min (q.pendingLoss + (1 + gone.lostBefore)) 65535) .unsent 0], ?_⟩
    have hroom := append_length_full (le_antisymm h.room hge) body instant
    have hbehind : ∀ n ∈ between ++ newer, n.state = .unsent := fun n hn => h.unsent n (by
      rw [hu]
      exact List.mem_append.mpr ((List.mem_append.mp hn).imp_right (List.mem_cons_of_mem _)))
    rw [ha] at hroom ⊢
    exact ⟨by simp only [List.append_assoc], hroom.le, h.few, h.nextSeq, h.numbered, newcomer hbehind⟩
  · refine ⟨unsent, ?_⟩
    rw [ha]
    exact ⟨h.queue, h.room, h.few, h.nextSeq, h.numbered, h.unsent⟩

/-- The mark of the whole window (R161). -/
theorem NoticeQueue.Window.marked :
    ({ q with queue := q.queue.map Notice.marked } : NoticeQueue).Window (sent.map Notice.marked) unsent := by
  have hu : unsent.map Notice.marked = unsent :=
    List.map_congr_left (fun n hn => Notice.marked_of_unsent (h.unsent n hn)) |>.trans (List.map_id _)
  exact ⟨by rw [h.queue, List.map_append, hu], by rw [List.length_map]; exact h.room,
    by rw [List.length_map]; exact h.few, h.nextSeq, by rw [List.length_map]; exact h.numbered.marked, h.unsent⟩

/-- A notice sent again keeps its number and its place (R160). -/
theorem NoticeQueue.Window.resent {older newer : List Notice} {n : Notice} (hq : q.queue = older ++ n :: newer)
    (hn : n.isMarked = true) : ∃ sent', sent'.length = sent.length ∧
      ({ q with queue := older ++ n.resent :: newer } : NoticeQueue).Window sent' unsent := by
  obtain ⟨seq, hseq⟩ := isMarked_eq_true.mp hn
  obtain ⟨between, rfl, rfl⟩ := h.split_sent hq (isSent_eq_true.mpr ⟨seq, true, hseq⟩)
  have hlen : (older ++ n.resent :: between).length = (older ++ n :: between).length := by simp
  have hroom := h.room
  obtain ⟨holder, ⟨mark, hmark⟩, hbetween⟩ := numberedFrom_append.mp h.numbered
  rw [hmark] at hseq
  obtain ⟨rfl, rfl⟩ := NoticeState.sent.inj hseq
  refine ⟨older ++ n.resent :: between, hlen, by simp, ?_, hlen ▸ h.few, h.nextSeq, ?_, h.unsent⟩
  · simpa [hq] using hroom
  · rw [hlen]
    exact numberedFrom_append.mpr ⟨holder, ⟨false, by rw [Notice.resent_of_sent hmark]⟩, hbetween⟩

/-- With fewer than 4 SENT the oldest UNSENT notice joins them with the next number (R159). -/
theorem NoticeQueue.Window.firstSent (hfew : sent.length < 4) {older newer : List Notice} {n : Notice}
    (hq : q.queue = older ++ n :: newer) (holder : ∀ o ∈ older, o.isSent = true) (hn : n.state = .unsent) :
    ({ q with queue := older ++ n.firstSent q.nextSeq :: newer, nextSeq := (q.nextSeq + 1) % 256 } : NoticeQueue).Window
      (sent ++ [n.firstSent q.nextSeq]) newer := by
  obtain ⟨between, rfl, rfl⟩ := h.split_unsent hq hn
  have hnone : between = [] := List.eq_nil_iff_forall_not_mem.mpr fun m hm => by
    have hsent := holder m (List.mem_append_right _ hm)
    rw [isSent_eq_false.mpr (h.unsent m (List.mem_append_left _ hm))] at hsent
    cases hsent
  subst hnone
  have hroom := h.room
  have hseq := h.nextSeq
  refine ⟨by simp, by simpa [hq] using hroom, ?_, Nat.mod_lt _ (by decide), ?_, fun m hm => h.unsent m (by simp [hm])⟩
  · rw [List.length_append, List.length_singleton]
    exact hfew
  · rw [List.length_append, List.length_singleton]
    refine numberedFrom_append.mpr ⟨h.numbered.congr (by dsimp only; omega), ⟨false, ?_⟩, trivial⟩
    refine congrArg (NoticeState.sent · false) ?_
    dsimp only
    omega

/-- An acknowledgement takes the oldest SENT notices away (R162). -/
theorem NoticeQueue.Window.acknowledged {older newer : List Notice} {n : Notice} (hq : q.queue = older ++ n :: newer)
    (hn : n.isSent = true) : ∃ sent', ({ q with queue := newer } : NoticeQueue).Window sent' unsent := by
  obtain ⟨between, rfl, rfl⟩ := h.split_sent hq hn
  have hroom := h.room
  have hfew := h.few
  have hnumbered := h.numbered
  rw [hq, List.length_append, List.length_cons] at hroom
  rw [List.length_append, List.length_cons] at hfew hnumbered
  obtain ⟨-, -, hbetween⟩ := numberedFrom_append.mp hnumbered
  exact ⟨between, rfl, by dsimp only; omega, by omega, h.nextSeq, hbetween.congr (by dsimp only; omega), h.unsent⟩

end

/-! ### The window with its resend deadline -/

/-- The invariant of R154 by the two parts of the queue. -/
theorem windowKept_iff (d : Device) :
    d.windowKept ↔ ∃ sent unsent, d.notices.Window sent unsent ∧ ((d.entryOf .resend).isSome ↔ 0 < sent.length) := by
  constructor
  · rintro ⟨hroom, hfew, hseq, hstate, hresend⟩
    have hlen : (d.notices.queue.take d.notices.sentCount).length = d.notices.sentCount := by
      rw [List.length_take]
      exact min_eq_left List.countP_le_length
    refine ⟨d.notices.queue.take d.notices.sentCount, d.notices.queue.drop d.notices.sentCount,
      ⟨(List.take_append_drop _ _).symm, hroom, by rw [hlen]; exact hfew, hseq, ?_, ?_⟩, by rw [hlen]; exact hresend⟩
    · rw [hlen, numberedFrom_iff]
      intro i n hn
      rw [List.getElem?_take] at hn
      split at hn
      · next hi =>
        have := hstate i n hn
        rwa [if_pos hi] at this
      · cases hn
    · intro n hn
      obtain ⟨i, hi⟩ := List.mem_iff_getElem?.mp hn
      rw [List.getElem?_drop] at hi
      have := hstate _ n hi
      rwa [if_neg (by omega)] at this
  · rintro ⟨sent, unsent, hw, hresend⟩
    have hcount := hw.sentCount
    refine ⟨hw.room, by rw [hcount]; exact hw.few, hw.nextSeq, fun i n hn => ?_, by rw [hcount]; exact hresend⟩
    rw [hw.queue, List.getElem?_append] at hn
    rw [hcount]
    by_cases hi : i < sent.length
    · rw [if_pos hi] at hn ⊢
      exact numberedFrom_iff.mp hw.numbered i n hn
    · rw [if_neg hi] at hn ⊢
      exact hw.unsent n (List.mem_of_getElem? hn)

end Sys2Proof.Machine
end

section
/-! The send window through every step (R154): notices are appended by timers and watches alone, sent by the arbiter,
marked by the resend deadline and removed by NOTICE_ACK. -/

namespace Sys2Proof.Machine

/-- The invariant of R154 goes on to hold. -/
abbrev Device.KeepsWindow (d d' : Device) : Prop := d.windowKept → d'.windowKept

/-! ### What leaves the SENT notices -/

/-- A change that leaves the notices, and whether the resend deadline runs. -/
theorem keepsWindow_of_resend {d d' : Device} (hn : d'.notices = d.notices)
    (he : (d'.entryOf .resend).isSome = (d.entryOf .resend).isSome) : d.KeepsWindow d' := by
  rw [Device.KeepsWindow, windowKept_iff, windowKept_iff, hn, he]
  exact id

theorem notify_keepsWindow (body : NoticeBody) (d : Device) : d.KeepsWindow (d.notify body) := by
  rw [Device.KeepsWindow, windowKept_iff, windowKept_iff]
  rintro ⟨sent, unsent, hw, hresend⟩
  obtain ⟨unsent', hw'⟩ := hw.append body d.elapsed
  exact ⟨sent, unsent', hw', hresend⟩

theorem insertEntry_keepsWindow {o : Owner} (h : Owner.resend ≠ o) (due : Int) (wall : Option Nat) (d : Device) :
    d.KeepsWindow (d.insertEntry o due wall) :=
  keepsWindow_of_resend rfl (by rw [Device.entryOf_insertEntry_of_ne h])

theorem removeEntry_keepsWindow {o : Owner} (h : Owner.resend ≠ o) (d : Device) : d.KeepsWindow (d.removeEntry o) :=
  keepsWindow_of_resend rfl (by rw [Device.entryOf_removeEntry_of_ne h])

theorem takeOwner_keepsWindow {o : Owner} (h : Owner.resend ≠ o) (d : Device) : d.KeepsWindow (d.takeOwner o) :=
  keepsWindow_of_resend rfl (by rw [Device.entryOf_takeOwner_of_ne h])

/-- The resend deadline is inserted where a notice is SENT. -/
theorem insertResend_windowKept {d : Device} {sent unsent : List Notice} (hw : d.notices.Window sent unsent)
    (hpos : 0 < sent.length) (due : Int) : (d.insertEntry .resend due none).windowKept :=
  (windowKept_iff _).mpr ⟨sent, unsent, hw, iff_of_true (isSome_entryOf_insertEntry_self _ _ _ _) hpos⟩

/-- The resend deadline is removed where none is. -/
theorem removeResend_windowKept {d : Device} {sent unsent : List Notice} (hw : d.notices.Window sent unsent)
    (hnone : sent.length = 0) : (d.removeEntry .resend).windowKept :=
  (windowKept_iff _).mpr ⟨sent, unsent, hw, by rw [Device.entryOf_removeEntry_self, hnone]; simp⟩

/-! ### Timers -/

theorem TimerWork.keepsWindow {d d' : Device} (h : TimerWork d d') : d.KeepsWindow d' := by
  have quiet (hn : d'.notices = d.notices) : d.KeepsWindow d' :=
    keepsWindow_of_resend hn (by rw [h.entryOf (by simp) (by simp)])
  cases h with
  | schedule => exact quiet rfl
  | change h =>
    cases h with
    | notify body => exact notify_keepsWindow body d
    | _ => exact quiet rfl

theorem TimerWorks.keepsWindow {d d' : Device} (h : TimerWorks d d') : d.KeepsWindow d' := by
  induction h with
  | refl => exact id
  | tail _ h ih => exact h.keepsWindow ∘ ih

theorem drainPastDue_keepsWindow (d : Device) : d.KeepsWindow d.drainPastDue := (drainPastDue_works d).keepsWindow

theorem setWall_keepsWindow (off : Int) (d : Device) : d.KeepsWindow (d.setWall off) := by
  have hnotices : ∀ (l : List Entry) (d : Device),
      (l.foldl (fun acc e => acc.insertEntry e.owner e.due e.wall) d).notices = d.notices := by
    intro l
    induction l with
    | nil => exact fun _ => rfl
    | cons e l ih => exact fun d => ih (d.insertEntry e.owner e.due e.wall)
  have hrekey : d.KeepsWindow ({ d with wallOffset := off } : Device).rekeyEntries :=
    keepsWindow_of_resend (hnotices _ _) (rekeyEntries_isSome { d with wallOffset := off } .resend)
  exact drainPastDue_keepsWindow _ ∘ hrekey

theorem releaseClaims_keepsWindow (r : TimerRec) (d : Device) : d.KeepsWindow (d.releaseClaims r) := by
  unfold Device.releaseClaims
  cases r.output with
  | none => cases r.source <;> exact id
  | some a => cases r.source <;> exact removeEntry_keepsWindow (o := .pulse a.line) (by simp) d

theorem takeClaims_keepsWindow (t : Fin 24) (r : TimerRec) (d : Device) : d.KeepsWindow (d.takeClaims t r) := by
  unfold Device.takeClaims
  cases r.output <;> cases r.source <;> exact id

theorem defineTimer_keepsWindow (t : Fin 24) (r : TimerRec) (d : Device) : d.KeepsWindow (d.defineTimer t r) := by
  have hforget : d.KeepsWindow (d.forgetTimer t) := by
    unfold Device.forgetTimer
    split
    · exact releaseClaims_keepsWindow _ d
    · exact id
  exact fun h => takeClaims_keepsWindow t r _ (hforget h)

/-! ### Watches -/

section
variable (w : Fin 16) (cause : Cause) (r : WatchRec) (d : Device)

theorem insertWatch_keepsWindow (due : Int) : d.KeepsWindow (d.insertEntry (.watch w) due none) :=
  insertEntry_keepsWindow (by simp) _ _ d

theorem startRsto_keepsWindow : d.KeepsWindow d.startRsto := insertEntry_keepsWindow (by simp) _ _ d

theorem enterWarn_keepsWindow : d.KeepsWindow (d.enterWarn w cause r) := fun h =>
  notify_keepsWindow _ _ (insertWatch_keepsWindow w (d.setWatch w _) _ h)

theorem tripDeadline_keepsWindow : d.KeepsWindow (d.tripDeadline w r) := by
  unfold Device.tripDeadline
  split
  · exact insertWatch_keepsWindow 0 _ _
  · exact removeEntry_keepsWindow (by simp) d

theorem trip_keepsWindow : d.KeepsWindow (d.trip w cause r) := by
  have hdeadline := tripDeadline_keepsWindow w r
    (d.setWatch w (some { r with state := .tripped, trips := addStop16 r.trips 1, recovery := 0 }))
  unfold Device.trip
  dsimp only
  split
  · exact fun h => notify_keepsWindow _ _ (startRsto_keepsWindow _ (hdeadline h))
  · exact fun h => notify_keepsWindow _ _ (hdeadline h)

theorem retrip_keepsWindow : d.KeepsWindow (d.retrip r) := by
  have htrip : ∀ x : Device, x.KeepsWindow (((x.startRsto).notify (.watchTripped 0 .retrip)).recordTrip 0 .retrip) :=
    fun x h => notify_keepsWindow _ _ (startRsto_keepsWindow x h)
  unfold Device.retrip
  dsimp only
  split
  · exact fun h => insertWatch_keepsWindow 0 _ _ (htrip _ h)
  · exact fun h => notify_keepsWindow _ _ (htrip _ h)

/-- The retrip deadline, where watch 0 is to have one (R109, R112). -/
theorem insertRetrip_keepsWindow {c : Prop} [Decidable c] : d.KeepsWindow (if c then d.insertRetrip r else d) := by
  split
  · exact insertWatch_keepsWindow 0 d _
  · exact id

theorem abortRelease_keepsWindow : d.KeepsWindow (d.abortRelease w cause r) := fun h =>
  notify_keepsWindow _ _ (insertRetrip_keepsWindow r _
    (removeEntry_keepsWindow (by simp) (d.setWatch w (some { r with state := .tripped, recovery := 0 })) h))

theorem completeRelease_keepsWindow : d.KeepsWindow (d.completeRelease w r) := by
  have hrun := insertWatch_keepsWindow w
    ((d.setWatch w (some { r with state := .running, recovery := 0, lastRenewal := some d.elapsed })).dropHolds w
      r.holdSet) (d.elapsed + r.period)
  unfold Device.completeRelease
  dsimp only
  split <;> exact fun h => notify_keepsWindow _ _ (hrun h)

theorem renew_keepsWindow : d.KeepsWindow (d.renew w r) := by
  unfold Device.renew
  dsimp only
  split
  · exact id
  · exact insertWatch_keepsWindow w (d.setWatch w _) _
  · exact fun h => notify_keepsWindow _ _ (insertWatch_keepsWindow w (d.setWatch w _) _ h)
  · exact insertRetrip_keepsWindow _ (d.setWatch w _)
  · exact id

theorem earlyCandidate_keepsWindow : d.KeepsWindow (d.earlyCandidate w r) := by
  unfold Device.earlyCandidate
  dsimp only
  split
  · exact id
  · exact enterWarn_keepsWindow w .early _ d
  · exact trip_keepsWindow w .early _ d
  · exact id
  · exact abortRelease_keepsWindow w .early _ d

theorem outOfStep_keepsWindow : d.KeepsWindow (d.outOfStep w r) := by
  unfold Device.outOfStep
  dsimp only
  split
  · exact id
  · exact id
  · exact id
  · exact id
  · exact abortRelease_keepsWindow w .outOfStep _ d

theorem prepare_keepsWindow : d.KeepsWindow (d.prepare w r).1 := by
  unfold Device.prepare
  split
  · exact id
  · exact outOfStep_keepsWindow w _ d

theorem confirm_keepsWindow (store : WatchRec → WatchRec) : d.KeepsWindow (d.confirm w r store).1 := by
  unfold Device.confirm
  split
  · exact outOfStep_keepsWindow w _ d
  · split
    · exact earlyCandidate_keepsWindow w _ d
    · exact renew_keepsWindow w _ d

theorem freeWatch_keepsWindow : d.KeepsWindow (d.freeWatch w r) := by
  rw [freeWatch_eq, ← removeOwner_eq_filter]
  exact removeEntry_keepsWindow (o := .watch w) (by simp) d

theorem watchEdge_keepsWindow (level : Level) : d.KeepsWindow (d.watchEdge w level) := by
  unfold Device.watchEdge
  split
  · exact id
  · split
    · exact id
    · split
      · exact id
      · split
        · exact id
        · split
          · exact earlyCandidate_keepsWindow w _ d
          · exact renew_keepsWindow w _ d

theorem watchDeadline_keepsWindow : d.KeepsWindow (d.watchDeadline w) := by
  unfold Device.watchDeadline
  split
  · exact id
  · split
    · exact id
    · exact enterWarn_keepsWindow w .expired _ d
    · exact trip_keepsWindow w .expired _ d
    · split
      · exact retrip_keepsWindow _ d
      · exact id
    · exact completeRelease_keepsWindow w _ d

end

/-! ### Requests -/

section
variable (p : List Byte) (d : Device)

/-- A one-byte timer request leaves the device, or acts on a defined timer. -/
theorem withTimer_cases (act : Fin 24 → TimerRec → Taken) :
    (withTimer p d act).1 = d ∨ ∃ t r, d.timers[t] = some r ∧ withTimer p d act = act t r := by
  unfold withTimer
  split
  · exact .inl rfl
  · split
    · exact .inl rfl
    · split
      · exact .inl rfl
      · next hr => exact .inr ⟨_, _, hr, rfl⟩

/-- A one-byte watch request leaves the device, or acts on a defined watch. -/
theorem withWatch_cases (act : Fin 16 → WatchRec → Taken) :
    (withWatch p d act).1 = d ∨ ∃ w r, d.watches[w] = some r ∧ withWatch p d act = act w r := by
  unfold withWatch
  split
  · exact .inl rfl
  · split
    · exact .inl rfl
    · split
      · exact .inl rfl
      · next hr => exact .inr ⟨_, _, hr, rfl⟩

theorem withTimer_keepsWindow {act : Fin 24 → TimerRec → Taken}
    (h : ∀ t r, d.timers[t] = some r → d.KeepsWindow (act t r).1) : d.KeepsWindow (withTimer p d act).1 := by
  rcases withTimer_cases p d act with hd | ⟨t, r, hr, hd⟩ <;> rw [hd]
  · exact id
  · exact h t r hr

theorem withWatch_keepsWindow {act : Fin 16 → WatchRec → Taken} (h : ∀ w r, d.KeepsWindow (act w r).1) :
    d.KeepsWindow (withWatch p d act).1 := by
  rcases withWatch_cases p d act with hd | ⟨w, r, -, hd⟩ <;> rw [hd]
  · exact id
  · exact h w r

theorem takeTimerDefine_keepsWindow : d.KeepsWindow (takeTimerDefine p d).1 := by
  unfold takeTimerDefine
  split
  · exact id
  · split
    · exact id
    · split
      · exact id
      · split
        · exact defineTimer_keepsWindow _ _ d
        · exact id

theorem takeTimerStart_keepsWindow : d.KeepsWindow (takeTimerStart p d).1 := by
  refine withTimer_keepsWindow p d fun t r hr => ?_
  split
  · exact drainPastDue_keepsWindow _ ∘ (beginTimer_works hr).keepsWindow
  · exact id
  · exact id

theorem takeTimerStop_keepsWindow : d.KeepsWindow (takeTimerStop p d).1 := by
  refine withTimer_keepsWindow p d fun t r hr => ?_
  dsimp only
  split
  · exact id
  · exact (stopTimer_changes hr).works.keepsWindow
  · exact (stopTimer_changes hr).works.keepsWindow

theorem takeTimerPause_keepsWindow : d.KeepsWindow (takeTimerPause p d).1 := by
  refine withTimer_keepsWindow p d fun t r hr => ?_
  split
  · exact id
  · exact id
  · exact id
  · exact (pauseTimer_changes hr).works.keepsWindow

theorem takeTimerResume_keepsWindow : d.KeepsWindow (takeTimerResume p d).1 := by
  refine withTimer_keepsWindow p d fun t r hr => ?_
  split
  · exact (resumeTimer_changes hr).works.keepsWindow
  · exact id
  · exact id

theorem takeTimerFree_keepsWindow : d.KeepsWindow (takeTimerFree p d).1 := by
  refine withTimer_keepsWindow p d fun t r _ => ?_
  dsimp only
  split
  · exact id
  · split
    · exact releaseClaims_keepsWindow r d
    · exact id
    · exact id

theorem takeTimeSet_keepsWindow : d.KeepsWindow (takeTimeSet p d).1 := by
  rcases takeTimeSet_cases p d with h | ⟨off, h⟩ <;> rw [h]
  · exact id
  · exact setWall_keepsWindow off d

theorem defineWatch_keepsWindow (w : Fin 16) (r : WatchRec) : d.KeepsWindow (d.defineWatch w r) := by
  refine keepsWindow_of_resend ?_ (by rw [entryOf_of_deadlines (defineWatch_deadlines w r d)])
  rw [Device.defineWatch_eq, (takeCheckin_claimsOnly w r _).notices]
  exact (forgetWatch_claimsOnly w d).notices

theorem takeWatchDefine_keepsWindow : d.KeepsWindow (takeWatchDefine p d).1 := by
  unfold takeWatchDefine
  split
  · exact id
  · split
    · split
      · exact id
      · split
        · exact id
        · split
          · exact id
          · exact defineWatch_keepsWindow d _ _
    · exact id

theorem takeWatchStart_keepsWindow : d.KeepsWindow (takeWatchStart p d).1 := by
  refine withWatch_keepsWindow p d fun w r => ?_
  dsimp only
  split
  · exact insertWatch_keepsWindow w (d.setWatch w _) _
  · exact id

theorem withLinkCheckin_keepsWindow {act : Fin 16 → WatchRec → Taken} (h : ∀ w r, d.KeepsWindow (act w r).1) :
    d.KeepsWindow (withLinkCheckin p d act).1 := by
  refine withWatch_keepsWindow p d fun w r => ?_
  split
  · exact id
  · exact id
  all_goals exact h w r

theorem retuneState_keepsWindow {st : WatchState} {act : Taken} (h : d.KeepsWindow act.1) :
    d.KeepsWindow (retuneState p d st act).1 := by
  unfold retuneState
  split
  · exact h
  · exact h
  all_goals exact id

theorem takeRetuneLink_keepsWindow : d.KeepsWindow (takeRetuneLink p d).1 := by
  unfold takeRetuneLink
  split
  · exact id
  · split
    · exact id
    · next code _ =>
      split
      · split
        · exact id
        · next r _ =>
          have hconfirm := confirm_keepsWindow 0 r d fun r => { r with
            period := linkPeriod code, grace := linkPeriod code, holdSet := byte (byteAt p 2) }
          refine retuneState_keepsWindow p d ?_
          dsimp only [checkinAnswer_fst]
          split
          · exact hconfirm
          · exact hconfirm
          · exact hconfirm
      · exact id

theorem takeWatchRetune_keepsWindow : d.KeepsWindow (takeWatchRetune p d).1 := by
  unfold takeWatchRetune
  split
  · exact id
  · split
    · exact takeRetuneLink_keepsWindow p d
    · split
      · exact id
      · split
        · exact id
        · split
          · split
            · exact id
            · split
              · exact id
              · exact retuneState_keepsWindow p d (confirm_keepsWindow _ _ d _)
          · exact id

theorem retireActive_keepsWindow (w : Fin 16) (r : WatchRec) : d.KeepsWindow (d.retireActive w r).1 := by
  have hconfirm := confirm_keepsWindow w r d id
  unfold Device.retireActive
  dsimp only
  split
  · exact freeWatch_keepsWindow w r _ ∘ hconfirm
  · exact hconfirm
  · exact hconfirm

theorem takeWatchRetire_keepsWindow : d.KeepsWindow (takeWatchRetire p d).1 := by
  unfold takeWatchRetire
  split
  · exact id
  · refine withWatch_keepsWindow p d fun w r => ?_
    split
    · exact freeWatch_keepsWindow w r d
    · exact retireActive_keepsWindow d w r
    · exact retireActive_keepsWindow d w r
    · exact id
    · exact id

theorem takeWatchRelease_keepsWindow : d.KeepsWindow (takeWatchRelease p d).1 := by
  refine withWatch_keepsWindow p d fun w r => ?_
  dsimp only
  split
  · exact id
  · split
    · exact id
    · unfold Device.releaseWatch
      dsimp only
      split
      · exact completeRelease_keepsWindow w _ (d.setWatch w _)
      · exact insertWatch_keepsWindow w (d.setWatch w _) _

theorem takeRestart_keepsWindow : d.KeepsWindow (takeRestart p d).1 := by
  have hconfirm : d.KeepsWindow (restartConfirm d).1 := by
    unfold restartConfirm
    split
    · exact confirm_keepsWindow 0 _ d id
    · exact id
  unfold takeRestart
  split
  · exact id
  · dsimp only
    split
    · exact hconfirm
    · exact hconfirm
    · exact hconfirm

theorem takeLinkQuery_keepsWindow : d.KeepsWindow (takeLinkQuery p d).1 := by
  unfold takeLinkQuery
  split
  · exact id
  · split <;> exact id

theorem takeLineSet_keepsWindow : d.KeepsWindow (takeLineSet p d).1 := by
  unfold takeLineSet
  split
  · exact id
  · split
    · split <;> exact id
    · exact id

theorem takeLineConfig_keepsWindow : d.KeepsWindow (takeLineConfig p d).1 := by
  unfold takeLineConfig
  split
  · exact id
  · split
    · split
      · exact id
      · split
        · exact id
        · split <;> exact id
    · exact id

theorem takeLineHold_keepsWindow : d.KeepsWindow (takeLineHold p d).1 := by
  unfold takeLineHold
  split <;> exact id

theorem takeLineUnhold_keepsWindow : d.KeepsWindow (takeLineUnhold p d).1 := by
  unfold takeLineUnhold
  split <;> exact id

theorem takeInputConfig_keepsWindow : d.KeepsWindow (takeInputConfig p d).1 := by
  unfold takeInputConfig
  split
  · exact id
  · split
    · split
      · exact id
      · split
        · exact id
        · split <;> exact id
    · exact id

theorem takeFaultClear_keepsWindow : d.KeepsWindow (takeFaultClear p d).1 := by
  unfold takeFaultClear
  split <;> exact id

/-- NOTICE_ACK takes the oldest SENT notices away, and the resend deadline with the last of them (R162). -/
theorem takeNoticeAck_keepsWindow : d.KeepsWindow (takeNoticeAck p d).1 := by
  by_cases hlen : p.length = 1
  · obtain ⟨seq, rfl⟩ := List.length_eq_one_iff.mp hlen
    rcases exists_first (Notice.hasSeq seq.toNat) d.notices.queue with hnone | ⟨older, n, newer, hq, holder, hn⟩
    · rw [takeNoticeAck_stale hnone]
      exact id
    · rw [takeNoticeAck_removes hq holder hn, ← removeOwner_eq_filter, Device.KeepsWindow, windowKept_iff]
      rintro ⟨sent, unsent, hw, -⟩
      obtain ⟨mark, hseq⟩ := hasSeq_eq_true.mp hn
      obtain ⟨sent', hw'⟩ := hw.acknowledged hq (isSent_eq_true.mpr ⟨_, mark, hseq⟩)
      have hcount : newer.countP Notice.isSent = sent'.length := hw'.sentCount
      dsimp only
      split
      · next hpos => exact insertResend_windowKept hw' (hcount ▸ hpos) _
      · next hpos =>
        exact removeResend_windowKept (d := { d with notices := { d.notices with queue := newer } }) hw'
          (Nat.eq_zero_of_not_pos (hcount ▸ hpos))
  · rw [takeNoticeAck, if_pos hlen]
    exact id

/-- Every request keeps the window. -/
theorem takeRequest_keepsWindow (r : Request) : d.KeepsWindow (takeRequest r p d).1 := by
  have query {x : Taken} (h : x.1 = d) : d.KeepsWindow x.1 := by
    rw [h]
    exact id
  cases r with
  | identify => exact query (takeIdentify_fst p d)
  | timeGet => exact query (takeTimeGet_fst p d)
  | scheduleQuery => exact query (takeScheduleQuery_fst p d)
  | faultQuery => exact query (takeFaultQuery_fst p d)
  | lineQuery => exact query (takeLineQuery_fst p d)
  | inputQuery => exact query (takeInputQuery_fst p d)
  | timerQuery => exact withTimer_keepsWindow p d fun _ _ _ => id
  | watchQuery => exact withWatch_keepsWindow p d fun _ _ => id
  | linkQuery => exact takeLinkQuery_keepsWindow p d
  | restart => exact takeRestart_keepsWindow p d
  | timeSet => exact takeTimeSet_keepsWindow p d
  | timerDefine => exact takeTimerDefine_keepsWindow p d
  | timerStart => exact takeTimerStart_keepsWindow p d
  | timerStop => exact takeTimerStop_keepsWindow p d
  | timerPause => exact takeTimerPause_keepsWindow p d
  | timerResume => exact takeTimerResume_keepsWindow p d
  | timerFree => exact takeTimerFree_keepsWindow p d
  | watchDefine => exact takeWatchDefine_keepsWindow p d
  | watchStart => exact takeWatchStart_keepsWindow p d
  | checkPrep => exact withLinkCheckin_keepsWindow p d fun w r => prepare_keepsWindow w r d
  | checkConf => exact withLinkCheckin_keepsWindow p d fun w r => confirm_keepsWindow w r d id
  | watchRetune => exact takeWatchRetune_keepsWindow p d
  | watchRetire => exact takeWatchRetire_keepsWindow p d
  | watchRelease => exact takeWatchRelease_keepsWindow p d
  | lineConfig => exact takeLineConfig_keepsWindow p d
  | lineSet => exact takeLineSet_keepsWindow p d
  | lineHold => exact takeLineHold_keepsWindow p d
  | lineUnhold => exact takeLineUnhold_keepsWindow p d
  | inputConfig => exact takeInputConfig_keepsWindow p d
  | noticeAck => exact takeNoticeAck_keepsWindow p d
  | faultClear => exact takeFaultClear_keepsWindow p d

end

/-! ### The other parts of a step -/

/-- The arbiter's notice: one sent again, or the oldest UNSENT one where the window has room (R158 to R160). -/
theorem sendNotice_keepsWindow (d : Device) : d.KeepsWindow d.sendNotice := by
  intro hd
  obtain ⟨sent, unsent, hw, hresend⟩ := (windowKept_iff d).mp hd
  rcases exists_first Notice.isMarked d.notices.queue with hnone | ⟨older, n, newer, hq, holder, hn⟩
  · rcases exists_first (fun n => !n.isSent) d.notices.queue with hall | ⟨older, n, newer, hq, holder, hn⟩
    · rwa [sendNotice_none hnone (.inr fun o ho => by simpa using hall o ho)]
    · rcases Nat.lt_or_ge (d.notices.queue.countP Notice.isSent) 4 with hfew | hfull
      · have hsent : ∀ o ∈ older, o.isSent = true := fun o ho => by simpa using holder o ho
        have hunsent : n.state = .unsent := isSent_eq_false.mp (by simpa using hn)
        have hw' := hw.firstSent (hw.sentCount ▸ hfew) hq hsent hunsent
        have hpos : 0 < (sent ++ [n.firstSent d.notices.nextSeq]).length := by simp
        rw [sendNotice_unsent hnone hfew hq hsent hunsent]
        split
        · next hrun => exact (windowKept_iff _).mpr ⟨_, _, hw', iff_of_true hrun hpos⟩
        · exact insertResend_windowKept hw' hpos _
      · rwa [sendNotice_none hnone (.inl hfull)]
  · obtain ⟨sent', hlen, hw'⟩ := hw.resent hq hn
    rw [sendNotice_marked hq holder hn, windowKept_iff]
    exact ⟨sent', unsent, hw', hlen ▸ hresend⟩

/-- The hand-over of the resend deadline runs it again while a notice is SENT (R161). -/
theorem resendDeadline_keepsWindow (d : Device) : d.KeepsWindow (d.takeOwner .resend).resendDeadline := by
  rw [Device.KeepsWindow, windowKept_iff]
  rintro ⟨sent, unsent, hw, -⟩
  have hcount : d.notices.queue.countP Notice.isSent = sent.length := hw.sentCount
  rcases Nat.eq_zero_or_pos sent.length with hnone | hpos
  · rw [resendDeadline_none (by exact hcount.trans hnone)]
    exact removeResend_windowKept hw hnone
  · rw [resendDeadline_sent (by exact hcount ▸ hpos)]
    exact insertResend_windowKept hw.marked (by rwa [List.length_map]) _

/-- The hand-over of an entry to its owner (R11). -/
theorem ownerWork_keepsWindow (e : Entry) (d : Device) : d.KeepsWindow ((d.takeOwner e.owner).ownerWork e) := by
  unfold Device.ownerWork
  cases e.owner with
  | timer t =>
    exact drainPastDue_keepsWindow _ ∘ (expireTimer_works t e.due false _).keepsWindow ∘
      takeOwner_keepsWindow (by simp) d
  | watch w => exact watchDeadline_keepsWindow w _ ∘ takeOwner_keepsWindow (by simp) d
  | pulse n => exact takeOwner_keepsWindow (o := .pulse n) (by simp) d
  | rstoPulse => exact takeOwner_keepsWindow (by simp) d
  | resend => exact resendDeadline_keepsWindow d

/-- An edge's delivery with the past-due hand-overs it causes (R13, R142). -/
theorem deliverEdge_keepsWindow (role : Role) (level : Level) (d : Device) :
    d.KeepsWindow (d.deliverEdge role level).drainPastDue := by
  refine drainPastDue_keepsWindow _ ∘ ?_
  unfold Device.deliverEdge
  split
  · exact id
  · exact watchEdge_keepsWindow _ d level
  · exact (countEdge_works _ level d).keepsWindow
  · split
    · exact (triggerTimer_works _ d).keepsWindow
    · exact id
  · split
    · exact (stopEdge_changes _ d).works.keepsWindow
    · exact id

theorem tick_keepsWindow (d : Device) : d.KeepsWindow d.tick := by
  unfold Device.tick
  split <;> exact id

/-- After a reset the notice queue is empty (R166). -/
theorem initial_windowKept (inputs : Vector InputRec 8) (spd : Level) (f : FaultRecord) (m : Mode) :
    ({ Device.initial inputs spd f with mode := m } : Device).windowKept :=
  (windowKept_iff _).mpr ⟨[], [], ⟨rfl, Nat.zero_le _, Nat.zero_le _, Nat.zero_lt_succ _, trivial, nofun⟩,
    by simp [Device.initial, Device.entryOf]⟩

theorem windowKept_parts : KeptByParts Device.windowKept where
  link _ := id
  send := sendNotice_keepsWindow _
  notice body := notify_keepsWindow body _
  request r p := takeRequest_keepsWindow p _ r
  work e := ownerWork_keepsWindow e _
  edge role level := deliverEdge_keepsWindow role level _
  input _ _ := id
  sampled := id
  tick := tick_keepsWindow _
  reset := initial_windowKept

/-- Settles O55: appends leave the SENT notices, sending adds the next number behind them, NOTICE_ACK takes the oldest
away, and the resend deadline comes and goes with them. -/
theorem noticeWindowKept : Obligations.NoticeWindowKept := by
  unfold Obligations.NoticeWindowKept
  exact fun _ _ hs h => windowKept_parts.step h hs

end Sys2Proof.Machine
end

section
/-! What a request reads and changes of the link port: nothing, but for LINK_QUERY and RESTART (R177, R183, R184). -/

namespace Sys2Proof.Machine

/-! ### Operations that see nothing of the link port -/

/-- The device with another link port. -/
def Device.withLink (l : LinkPort) (d : Device) : Device := { d with link := l }

/-- The operation neither reads nor changes the link port. -/
def Blind (f : Device → Device) : Prop := ∀ l d, f (d.withLink l) = (f d).withLink l

/-- The same of an operation that gives a result as well: a reply's payload, or how the phase rule answers. -/
def BlindWith {β : Type} (f : Device → Device × β) : Prop :=
  ∀ l d, f (d.withLink l) = Prod.map (Device.withLink l) id (f d)

section
variable (l : LinkPort) (d : Device)

@[simp] theorem withLink_elapsed : (d.withLink l).elapsed = d.elapsed := rfl
@[simp] theorem withLink_deadlines : (d.withLink l).deadlines = d.deadlines := rfl
@[simp] theorem withLink_timers : (d.withLink l).timers = d.timers := rfl
@[simp] theorem withLink_watches : (d.withLink l).watches = d.watches := rfl
@[simp] theorem withLink_lines : (d.withLink l).lines = d.lines := rfl
@[simp] theorem withLink_notices : (d.withLink l).notices = d.notices := rfl
@[simp] theorem withLink_entryOf (o : Owner) : (d.withLink l).entryOf o = d.entryOf o := rfl

end

theorem Blind.comp {f g : Device → Device} (hg : Blind g) (hf : Blind f) : Blind fun d => g (f d) := fun l d =>
  (congrArg g (hf l d)).trans (hg l (f d))

theorem Blind.foldl {α : Type} {f : Device → α → Device} (h : ∀ a, Blind fun d => f d a) (as : List α) :
    Blind fun d => as.foldl f d := by
  induction as with
  | nil => exact fun _ _ => rfl
  | cons a as ih => exact ih.comp (h a)

/-- A result that follows from the device left. -/
theorem Blind.result {β : Type} {f : Device → Device} (h : Blind f) {g : Device → β}
    (hg : ∀ l d, g (d.withLink l) = g d) : BlindWith fun d => (f d, g (f d)) := fun l d => by
  simp only [h l d, hg, Prod.map, id]

/-- A choice by what is read elsewhere. -/
theorem ite_withLink {c c' : Prop} [Decidable c] [Decidable c'] (hc : c' ↔ c) {l : LinkPort} {x x' y y' : Device}
    (hx : x' = x.withLink l) (hy : y' = y.withLink l) :
    (if c' then x' else y') = (if c then x else y).withLink l := by
  rw [hx, hy, apply_ite (Device.withLink l)]
  exact if_congr hc rfl rfl

theorem ite_map_withLink {β : Type} {c c' : Prop} [Decidable c] [Decidable c'] (hc : c' ↔ c) {l : LinkPort}
    {x x' y y' : Device × β} (hx : x' = x.map (Device.withLink l) id) (hy : y' = y.map (Device.withLink l) id) :
    (if c' then x' else y') = (if c then x else y).map (Device.withLink l) id := by
  rw [hx, hy, apply_ite (Prod.map (Device.withLink l) id)]
  exact if_congr hc rfl rfl

/-- What leaves the device gives a result that reads nothing of the link port. -/
theorem BlindWith.link_eq {β : Type} {f : Device → Device × β} (h : BlindWith f) (d : Device) :
    (f d).1.link = d.link :=
  congrArg (fun x => x.1.link) (h d.link d)

/-! ### Timers -/

section
variable (t : Fin 24) (r : TimerRec)

theorem applyEffect_blind (n : Fin 8) (eff : Effect) : Blind (Device.applyEffect n eff) := fun l d => by
  cases eff with
  | toggle =>
    unfold Device.applyEffect
    dsimp only [withLink_lines]
    cases d.lines[n].shadow <;> rfl
  | _ => rfl

theorem scheduleStart_blind : Blind (Device.scheduleStart t r) := fun l d => by
  unfold Device.scheduleStart
  cases r.kind with
  | absolute due => rfl
  | relative => cases r.source <;> rfl

theorem beginTimer_blind : Blind (Device.beginTimer t r) := fun l d =>
  scheduleStart_blind t r l (d.setTimer t (some { r with state := .running, remaining := r.period }))

theorem triggerTimer_blind : Blind (Device.triggerTimer t) := fun l d => by
  unfold Device.triggerTimer
  rw [withLink_timers]
  cases d.timers[t] with
  | none => rfl
  | some r =>
    dsimp only
    cases r.state with
    | paused => rfl
    | idle => exact beginTimer_blind t r l d
    | running => exact beginTimer_blind t r l d

theorem stopTimer_blind : Blind (Device.stopTimer t r) := fun l d => by
  unfold Device.stopTimer
  cases r.output <;> rfl

theorem continueTimer_blind (due : Int) : Blind (Device.continueTimer t r due) := fun l d => by
  unfold Device.continueTimer
  cases r.mode with
  | once => rfl
  | repeating =>
    cases r.kind with
    | relative => cases r.source <;> rfl
    | absolute old => exact ite_withLink Iff.rfl rfl rfl

theorem outputStage_blind : Blind (Device.outputStage r) := fun l d => by
  unfold Device.outputStage
  cases r.output with
  | none => rfl
  | some a => exact applyEffect_blind _ _ l d

theorem noticeStage_blind (late : Bool) (missed : Nat) : Blind (Device.noticeStage t r late missed) := fun l d => by
  unfold Device.noticeStage
  cases r.notice <;> rfl

theorem triggerStage_blind : Blind (Device.triggerStage r) := fun l d => by
  unfold Device.triggerStage
  cases r.trigger with
  | none => rfl
  | some u => exact triggerTimer_blind u l d

theorem expiryStages_blind (due : Int) (pastDue : Bool) : Blind (Device.expiryStages t r due pastDue) := fun l d => by
  have hlate : (d.withLink l).isLate r pastDue = d.isLate r pastDue := rfl
  have hmissed : (d.withLink l).missedCount r = d.missedCount r := rfl
  simp only [Device.expiryStages, hlate, hmissed, continueTimer_blind _ _ _ l, outputStage_blind _ l,
    noticeStage_blind _ _ _ _ l, triggerStage_blind _ l]

theorem takeCount_blind {f : Device → Device} (hf : Blind f) : Blind (Device.takeCount f t r) := fun l d =>
  ite_withLink Iff.rfl (hf l (d.setTimer t _)) rfl

theorem offerCount_blind {f : Device → Device} (hf : Blind f) (parent : Fin 24) :
    Blind (Device.offerCount f parent t) := fun l d => by
  unfold Device.offerCount
  rw [withLink_timers]
  cases d.timers[t] with
  | none => rfl
  | some r => exact ite_withLink Iff.rfl (takeCount_blind t r hf l d) rfl

theorem expire_blind (fuel : Nat) (due : Int) (pastDue : Bool) : Blind (expire fuel t due pastDue) := by
  induction fuel generalizing t due pastDue with
  | zero => exact fun _ _ => rfl
  | succ fuel ih =>
    intro l d
    unfold expire
    rw [withLink_timers]
    cases d.timers[t] with
    | none => rfl
    | some r =>
      have hcounts := Blind.foldl (f := fun acc c => acc.offerCount (fun d => expire fuel c d.elapsed false d) t c)
        (fun c => offerCount_blind c (fun l d => ih c d.elapsed false l d) t) (List.finRange 24)
      exact hcounts.comp (expiryStages_blind t r due pastDue) l d

theorem drain_blind (fuel : Nat) : Blind (drain fuel) := by
  induction fuel with
  | zero => exact fun _ _ => rfl
  | succ fuel ih =>
    intro l d
    unfold drain
    rw [withLink_deadlines]
    cases d.deadlines.find? (fun e => e.pastDue) with
    | none => rfl
    | some e =>
      dsimp only
      cases e.owner with
      | timer t => exact ih.comp (expire_blind t 24 e.due true) l (d.takeOwner (.timer t))
      | _ => rfl

theorem drainPastDue_blind : Blind Device.drainPastDue := drain_blind 24

theorem pauseTimer_blind : Blind (Device.pauseTimer t r) := fun l d => by
  unfold Device.pauseTimer
  cases r.source <;> rfl

theorem resumeTimer_blind : Blind (Device.resumeTimer t r) := fun l d => by
  unfold Device.resumeTimer
  cases r.source <;> rfl

theorem releaseClaims_blind : Blind (Device.releaseClaims r) := fun l d => by
  unfold Device.releaseClaims
  cases r.output <;> cases r.source <;> rfl

theorem takeClaims_blind : Blind (Device.takeClaims t r) := fun l d => by
  unfold Device.takeClaims
  cases r.output <;> cases r.source <;> rfl

theorem defineTimer_blind : Blind (Device.defineTimer t r) := by
  have hforget : Blind (Device.forgetTimer t) := fun l d => by
    unfold Device.forgetTimer
    rw [withLink_timers]
    cases d.timers[t] with
    | none => rfl
    | some old => exact releaseClaims_blind old l d
  exact (takeClaims_blind t r).comp (Blind.comp (g := Device.setTimer t (some r)) (fun _ _ => rfl) hforget)

theorem rekeyEntries_blind : Blind Device.rekeyEntries := fun l d =>
  let listed := d.deadlines.map (Entry.rekey d.wallOffset d.elapsed)
  Blind.foldl (f := fun acc (e : Entry) => acc.insertEntry e.owner e.due e.wall) (fun _ _ _ => rfl)
    (listed.filter d.delayedEntry) l { d with deadlines := sortEntries (listed.filter fun e => !d.delayedEntry e) }

end

/-! ### Watches -/

section
variable (w : Fin 16) (cause : Cause) (r : WatchRec)

theorem trip_blind : Blind (Device.trip w cause r) := fun l d => by
  unfold Device.trip Device.tripDeadline
  dsimp only
  split <;> rfl

theorem retrip_blind : Blind (Device.retrip r) := fun _ _ => ite_withLink Iff.rfl rfl rfl

/-- The retrip deadline, where watch 0 is to have one (R109, R112). -/
theorem insertRetrip_blind :
    Blind fun d => if w = 0 ∧ d.linkWatch.lockout = false then d.insertRetrip r else d := fun _ _ =>
  ite_withLink Iff.rfl rfl rfl

theorem abortRelease_blind : Blind (Device.abortRelease w cause r) := fun l d =>
  congrArg (Device.notify (.releaseAborted w cause)) (insertRetrip_blind w r l
    ((d.setWatch w (some { r with state := .tripped, recovery := 0 })).removeEntry (.watch w)))

theorem completeRelease_blind : Blind (Device.completeRelease w r) := fun l d => by
  unfold Device.completeRelease
  dsimp only
  split <;> rfl

theorem renew_blind : Blind (Device.renew w r) := fun l d => by
  have hstate : (r.renewed d.elapsed).state = r.state := rfl
  unfold Device.renew
  dsimp only [withLink_elapsed]
  rw [hstate]
  cases r.state with
  | tripped => exact insertRetrip_blind w (r.renewed d.elapsed) l (d.setWatch w _)
  | _ => rfl

theorem earlyCandidate_blind : Blind (Device.earlyCandidate w r) := fun l d => by
  unfold Device.earlyCandidate
  dsimp only
  cases r.state with
  | warn => exact trip_blind w .early _ l d
  | releasing => exact abortRelease_blind w .early _ l d
  | _ => rfl

theorem outOfStep_blind : Blind (Device.outOfStep w r) := fun l d => by
  unfold Device.outOfStep
  dsimp only
  cases r.state with
  | releasing => exact abortRelease_blind w .outOfStep _ l d
  | _ => rfl

theorem prepare_blind : BlindWith (Device.prepare w r) := fun l d => by
  unfold Device.prepare
  cases r.phase with
  | opened => rfl
  | half => exact congrArg (·, Judgement.outOfStep) (outOfStep_blind w _ l d)

theorem confirm_blind (store : WatchRec → WatchRec) : BlindWith (Device.confirm w r store) := fun l d => by
  unfold Device.confirm
  cases r.phase with
  | opened => exact congrArg (·, Judgement.outOfStep) (outOfStep_blind w _ l d)
  | half =>
    exact ite_map_withLink Iff.rfl (congrArg (·, Judgement.early) (earlyCandidate_blind w _ l d))
      (congrArg (·, Judgement.ok) (renew_blind w _ l d))

theorem defineWatch_blind : Blind (Device.defineWatch w r) := by
  have hforget : Blind (Device.forgetWatch w) := fun l d => by
    unfold Device.forgetWatch
    rw [withLink_watches]
    cases d.watches[w] with
    | none => rfl
    | some old =>
      dsimp only
      unfold Device.releaseCheckin
      cases old.source <;> rfl
  have htake : Blind (Device.takeCheckin w r) := fun l d => by
    unfold Device.takeCheckin
    cases r.source <;> rfl
  exact htake.comp (Blind.comp (g := fun d => d.setWatch w (some { r with phase := d.sourcePhase r.source }))
    (fun _ _ => rfl) hforget)

theorem freeWatch_blind : Blind (Device.freeWatch w r) := fun l d => by
  rw [freeWatch_eq, freeWatch_eq]
  rfl

theorem retireActive_blind : BlindWith (Device.retireActive w r) := fun l d => by
  unfold Device.retireActive
  rw [confirm_blind w r id l d]
  obtain ⟨x, j⟩ := d.confirm w r id
  cases j with
  | ok => exact congrArg (·, Judgement.ok) (freeWatch_blind w r l x)
  | _ => rfl

theorem watchDeadline_blind : Blind (Device.watchDeadline w) := fun l d => by
  unfold Device.watchDeadline
  rw [withLink_watches]
  cases d.watches[w] with
  | none => rfl
  | some r =>
    dsimp only
    cases r.state with
    | dormant => rfl
    | running => rfl
    | warn => exact trip_blind w .expired r l d
    | tripped => exact ite_withLink Iff.rfl (retrip_blind r l d) rfl
    | releasing => exact completeRelease_blind w r l d

theorem afterHandOver_blind : Blind (Device.afterHandOver w) := fun l d => by
  unfold Device.afterHandOver
  rw [withLink_entryOf]
  cases d.entryOf (.watch w) with
  | none => rfl
  | some e => exact ite_withLink Iff.rfl (watchDeadline_blind w l d) rfl

/-- The reply to a check-in looks at the watch alone (R74, R75). -/
theorem checkinAnswer_withLink {l : LinkPort} {x x' : Device × Judgement} (h : x' = x.map (Device.withLink l) id) :
    checkinAnswer w x' = (checkinAnswer w x).map (Device.withLink l) id := by
  have hreply : checkinReply w ((x.1.withLink l).afterHandOver w) = checkinReply w (x.1.afterHandOver w) := by
    rw [afterHandOver_blind w l]
    rfl
  rw [h]
  exact congrArg (fun reply => (x.1.withLink l, x.2.status.code :: reply)) hreply

end

/-! ### Requests -/

section
variable (p : List Byte)

theorem withTimer_withLink (l : LinkPort) (d : Device) {act act' : Fin 24 → TimerRec → Taken}
    (h : ∀ t r, act' t r = (act t r).map (Device.withLink l) id) :
    withTimer p (d.withLink l) act' = (withTimer p d act).map (Device.withLink l) id := by
  refine ite_map_withLink Iff.rfl rfl ?_
  cases idAt 24 p 0 with
  | none => rfl
  | some t =>
    dsimp only [withLink_timers]
    cases d.timers[t] with
    | none => rfl
    | some r => exact h t r

theorem withWatch_withLink (l : LinkPort) (d : Device) {act act' : Fin 16 → WatchRec → Taken}
    (h : ∀ w r, act' w r = (act w r).map (Device.withLink l) id) :
    withWatch p (d.withLink l) act' = (withWatch p d act).map (Device.withLink l) id := by
  refine ite_map_withLink Iff.rfl rfl ?_
  cases idAt 16 p 0 with
  | none => rfl
  | some w =>
    dsimp only [withLink_watches]
    cases d.watches[w] with
    | none => rfl
    | some r => exact h w r

theorem withLinkCheckin_withLink (l : LinkPort) (d : Device) {act act' : Fin 16 → WatchRec → Taken}
    (h : ∀ w r, act' w r = (act w r).map (Device.withLink l) id) :
    withLinkCheckin p (d.withLink l) act' = (withLinkCheckin p d act).map (Device.withLink l) id :=
  withWatch_withLink p l d fun w r => by
    cases r.source with
    | line n a => rfl
    | link =>
      cases r.state with
      | dormant => rfl
      | _ => exact h w r

theorem takeTimerDefine_blind : BlindWith (takeTimerDefine p) := fun l d => by
  have hcheck : ∀ t r, (d.withLink l).timerDefineCheck t r = d.timerDefineCheck t r := fun _ _ => rfl
  refine ite_map_withLink Iff.rfl rfl ?_
  split
  · rfl
  · split
    · rfl
    · rw [hcheck]
      split
      · exact congrArg (·, _) (defineTimer_blind _ _ l d)
      · rfl

theorem takeTimerStart_blind : BlindWith (takeTimerStart p) := fun l d =>
  withTimer_withLink p l d fun t r => by
    cases r.state with
    | idle =>
      exact (drainPastDue_blind.comp (beginTimer_blind t r)).result
        (g := fun d => Status.ok.code :: timerReply t d) (fun _ _ => rfl) l d
    | _ => rfl

theorem takeTimerStop_blind : BlindWith (takeTimerStop p) := fun l d =>
  withTimer_withLink p l d fun t r => by
    have hstop := (stopTimer_blind t r).result (g := fun d => Status.ok.code :: timerShortReply t d)
      (fun _ _ => rfl) l d
    cases r.state with
    | idle => rfl
    | running => exact hstop
    | paused => exact hstop

theorem takeTimerPause_blind : BlindWith (takeTimerPause p) := fun l d =>
  withTimer_withLink p l d fun t r => by
    cases r.kind with
    | absolute due => rfl
    | relative =>
      cases r.state with
      | running =>
        exact (pauseTimer_blind t r).result (g := fun d => Status.ok.code :: timerShortReply t d ++
          beBytes 2 ((d.timers[t].map TimerRec.remaining).getD 0)) (fun _ _ => rfl) l d
      | _ => rfl

theorem takeTimerResume_blind : BlindWith (takeTimerResume p) := fun l d =>
  withTimer_withLink p l d fun t r => by
    cases r.state with
    | paused =>
      exact (resumeTimer_blind t r).result (g := fun d => Status.ok.code :: timerReply t d) (fun _ _ => rfl) l d
    | _ => rfl

theorem takeTimerFree_blind : BlindWith (takeTimerFree p) := fun l d =>
  withTimer_withLink p l d fun t r => by
    refine ite_map_withLink Iff.rfl rfl ?_
    cases r.state with
    | idle =>
      exact (Blind.comp (g := Device.setTimer t none) (fun _ _ => rfl) (releaseClaims_blind r)).result
        (g := fun d => Status.ok.code :: timerShortReply t d) (fun _ _ => rfl) l d
    | _ => rfl

theorem takeTimeSet_blind : BlindWith (takeTimeSet p) := fun l d =>
  ite_map_withLink Iff.rfl rfl (ite_map_withLink Iff.rfl rfl
    (congrArg (·, _) (drainPastDue_blind.comp rekeyEntries_blind l
      { d with wallOffset := offsetFor (fieldAt p 0 6) d.elapsed })))

theorem takeWatchDefine_blind : BlindWith (takeWatchDefine p) := fun l d => by
  refine ite_map_withLink Iff.rfl rfl ?_
  split
  · exact ite_map_withLink Iff.rfl rfl (ite_map_withLink Iff.rfl rfl (ite_map_withLink Iff.rfl rfl
      (congrArg (·, _) (defineWatch_blind _ _ l d))))
  · rfl

theorem takeWatchStart_blind : BlindWith (takeWatchStart p) := fun l d =>
  withWatch_withLink p l d fun _ _ => ite_map_withLink Iff.rfl rfl rfl

theorem takeCheckPrep_blind : BlindWith (takeCheckPrep p) := fun l d =>
  withLinkCheckin_withLink p l d fun w r => checkinAnswer_withLink w (prepare_blind w r l d)

theorem takeCheckConf_blind : BlindWith (takeCheckConf p) := fun l d =>
  withLinkCheckin_withLink p l d fun w r => checkinAnswer_withLink w (confirm_blind w r id l d)

theorem retuneState_withLink {l : LinkPort} {d : Device} (st : WatchState) {x x' : Taken}
    (h : x' = x.map (Device.withLink l) id) :
    retuneState p (d.withLink l) st x' = (retuneState p d st x).map (Device.withLink l) id := by
  cases st with
  | running => exact h
  | warn => exact h
  | _ => rfl

theorem takeRetuneLink_blind : BlindWith (takeRetuneLink p) := fun l d => by
  refine ite_map_withLink Iff.rfl rfl ?_
  cases idAt 4 p 1 with
  | none => rfl
  | some code =>
    refine ite_map_withLink Iff.rfl ?_ rfl
    dsimp only [withLink_watches]
    cases d.watches[(0 : Fin 16)] with
    | none => rfl
    | some r =>
      refine retuneState_withLink p r.state (checkinAnswer_withLink 0 ?_)
      rw [confirm_blind 0 r _ l d]
      generalize d.confirm 0 r _ = x
      obtain ⟨x, j⟩ := x
      cases j <;> rfl

theorem takeWatchRetune_blind : BlindWith (takeWatchRetune p) := fun l d => by
  refine ite_map_withLink Iff.rfl rfl (ite_map_withLink Iff.rfl (takeRetuneLink_blind p l d)
    (ite_map_withLink Iff.rfl rfl ?_))
  cases idAt 16 p 0 with
  | none => rfl
  | some w =>
    refine ite_map_withLink Iff.rfl ?_ rfl
    dsimp only [withLink_watches]
    cases d.watches[w] with
    | none => rfl
    | some r =>
      dsimp only
      cases r.source with
      | line n a => rfl
      | link => exact retuneState_withLink p r.state (checkinAnswer_withLink w (confirm_blind w r _ l d))

theorem takeWatchRetire_blind : BlindWith (takeWatchRetire p) := fun l d => by
  refine ite_map_withLink Iff.rfl rfl (withWatch_withLink p l d fun w r => ?_)
  have hactive := checkinAnswer_withLink w (retireActive_blind w r l d)
  cases r.state with
  | dormant =>
    exact (freeWatch_blind w r).result (g := fun d => Status.ok.code :: checkinReply w d) (fun _ _ => rfl) l d
  | running => exact hactive
  | warn => exact hactive
  | _ => rfl

theorem takeWatchRelease_blind : BlindWith (takeWatchRelease p) := fun l d =>
  withWatch_withLink p l d fun w r =>
    have hrelease : Blind (Device.releaseWatch w r) := fun l d =>
      ite_withLink Iff.rfl (completeRelease_blind w _ l (d.setWatch w _)) rfl
    ite_map_withLink Iff.rfl rfl (ite_map_withLink Iff.rfl rfl
      (hrelease.result (g := fun d => Status.ok.code :: checkinReply w d ++ optInstant (d.dueOf (.watch w)))
        (fun _ _ => rfl) l d))

theorem takeLineSet_blind : BlindWith (takeLineSet p) := fun l d => by
  refine ite_map_withLink Iff.rfl rfl ?_
  split
  · exact ite_map_withLink Iff.rfl rfl rfl
  · rfl

theorem takeLineConfig_blind : BlindWith (takeLineConfig p) := fun l d => by
  refine ite_map_withLink Iff.rfl rfl ?_
  split
  · exact ite_map_withLink Iff.rfl rfl (ite_map_withLink Iff.rfl rfl (ite_map_withLink Iff.rfl rfl rfl))
  · rfl

theorem takeLineQuery_blind : BlindWith (takeLineQuery p) := fun l d => by
  refine ite_map_withLink Iff.rfl rfl ?_
  cases idAt 8 p 0 <;> rfl

theorem takeInputConfig_blind : BlindWith (takeInputConfig p) := fun l d => by
  refine ite_map_withLink Iff.rfl rfl ?_
  split
  · exact ite_map_withLink Iff.rfl rfl (ite_map_withLink Iff.rfl rfl (ite_map_withLink Iff.rfl rfl rfl))
  · rfl

theorem takeInputQuery_blind : BlindWith (takeInputQuery p) := fun l d => by
  refine ite_map_withLink Iff.rfl rfl ?_
  cases idAt 8 p 0 <;> rfl

theorem takeNoticeAck_blind : BlindWith (takeNoticeAck p) := fun l d => by
  have hremove : ∀ rest, Blind fun d : Device =>
      let d' : Device := { d with notices := { d.notices with queue := rest } }
      if 0 < d'.notices.sentCount then d'.insertResend else d'.removeEntry .resend :=
    fun _ _ _ => ite_withLink Iff.rfl rfl rfl
  refine ite_map_withLink Iff.rfl rfl ?_
  dsimp only [withLink_notices]
  split
  · rfl
  · exact (hremove _).result (g := fun d => Status.ok.code :: ackCounts _ d) (fun _ _ => rfl) l d

/-- No request but LINK_QUERY and RESTART sees the link port (R183, R185). -/
theorem takeRequest_blind {r : Request} (hlink : r ≠ .linkQuery) (hrestart : r ≠ .restart) :
    BlindWith (takeRequest r p) := by
  cases r with
  | linkQuery => exact absurd rfl hlink
  | restart => exact absurd rfl hrestart
  | identify => exact fun _ _ => ite_map_withLink Iff.rfl rfl rfl
  | timeGet => exact fun _ _ => ite_map_withLink Iff.rfl rfl rfl
  | scheduleQuery => exact fun _ _ => ite_map_withLink Iff.rfl rfl rfl
  | faultQuery => exact fun _ _ => ite_map_withLink Iff.rfl rfl rfl
  | faultClear => exact fun _ _ => ite_map_withLink Iff.rfl rfl rfl
  | lineHold => exact fun _ _ => ite_map_withLink Iff.rfl rfl rfl
  | lineUnhold => exact fun _ _ => ite_map_withLink Iff.rfl rfl rfl
  | lineQuery => exact takeLineQuery_blind p
  | inputQuery => exact takeInputQuery_blind p
  | timerQuery => exact fun l d => withTimer_withLink p l d fun _ _ => rfl
  | watchQuery => exact fun l d => withWatch_withLink p l d fun _ _ => rfl
  | timeSet => exact takeTimeSet_blind p
  | timerDefine => exact takeTimerDefine_blind p
  | timerStart => exact takeTimerStart_blind p
  | timerStop => exact takeTimerStop_blind p
  | timerPause => exact takeTimerPause_blind p
  | timerResume => exact takeTimerResume_blind p
  | timerFree => exact takeTimerFree_blind p
  | watchDefine => exact takeWatchDefine_blind p
  | watchStart => exact takeWatchStart_blind p
  | checkPrep => exact takeCheckPrep_blind p
  | checkConf => exact takeCheckConf_blind p
  | watchRetune => exact takeWatchRetune_blind p
  | watchRetire => exact takeWatchRetire_blind p
  | watchRelease => exact takeWatchRelease_blind p
  | lineConfig => exact takeLineConfig_blind p
  | lineSet => exact takeLineSet_blind p
  | inputConfig => exact takeInputConfig_blind p
  | noticeAck => exact takeNoticeAck_blind p

end

end Sys2Proof.Machine
end

section
/-! The end of a frame: what goes next, and the waiting frame that a leaving reply makes room for (R176, R180, R181,
R185). -/

namespace Sys2Proof.Machine

/-! ### The frames that wait behind the one taken -/

/-- The device with other frames waiting. -/
def Device.withWaiting (waiting : List Frame) (d : Device) : Device :=
  d.withLink { d.link with receiveQueue := waiting }

section
variable {r : Request} (hr : r ≠ .restart) (p : List Byte) (d : Device)
include hr

/-- Of the link port a request but RESTART changes the counters at most (R183, R185). -/
theorem takeRequest_link :
    (takeRequest r p d).1.link = { d.link with counters := (takeRequest r p d).1.link.counters } := by
  by_cases hlink : r = .linkQuery
  · subst hlink
    show (takeLinkQuery p d).1.link = { d.link with counters := (takeLinkQuery p d).1.link.counters }
    unfold takeLinkQuery
    split
    · rfl
    · split <;> rfl
  · rw [(takeRequest_blind p hlink hr).link_eq]

/-- The frames behind it do not matter to a request but RESTART (R185). -/
theorem takeRequest_withWaiting (waiting : List Frame) :
    takeRequest r p (d.withWaiting waiting) = (takeRequest r p d).map (Device.withWaiting waiting) id := by
  by_cases hlink : r = .linkQuery
  · subst hlink
    show takeLinkQuery p (d.withWaiting waiting) = (takeLinkQuery p d).map (Device.withWaiting waiting) id
    unfold takeLinkQuery
    split
    · rfl
    · split <;> rfl
  · have hblind := takeRequest_blind p hlink hr
    rw [Device.withWaiting, hblind, ← hblind.link_eq d]
    rfl

end

/-- The device with the reply to a request queued and the arbiter's choice made (R177, R181). -/
def Device.answered (r : Request) (tag : Byte) (x : Taken) : Device :=
  { x.1 with link := x.1.link.answered { kind := r.replyCode, tag := tag, payload := x.2 } }

/-- The frames that wait do not matter to where a reply goes. -/
theorem LinkPort.answered_waiting (l : LinkPort) (waiting : List Frame) (reply : Frame) :
    ({ l with receiveQueue := waiting } : LinkPort).answered reply =
      { l.answered reply with receiveQueue := waiting } := by
  unfold LinkPort.answered
  dsimp only
  split <;> rfl

theorem answered_withWaiting (r : Request) (tag : Byte) (waiting : List Frame) (x : Taken) :
    Device.answered r tag (x.map (Device.withWaiting waiting) id) =
      (Device.answered r tag x).withWaiting waiting :=
  congrArg (Device.withLink · x.1)
    (x.1.link.answered_waiting waiting { kind := r.replyCode, tag := tag, payload := x.2 })

/-- A request of known kind is taken whole, its reply behind those that wait (R177). -/
theorem takeFrame_arbitrate (r : Request) (tag : Byte) (p : List Byte) (d : Device) :
    (d.takeFrame (r.frame tag p)).arbitrate = Device.answered r tag (takeRequest r p d) := by
  rw [Device.takeFrame, Device.queueReply_arbitrate]
  simp [answer, Request.frame, Device.answered]

/-- With the reply queue full the dispatcher takes no frame (R176). -/
theorem dispatchFrames_full {d : Device} (h : 4 ≤ d.link.replyQueue.length) (fuel : Nat) :
    dispatchFrames fuel d = d := by
  cases fuel with
  | zero => rfl
  | succ fuel =>
    rcases dispatchFrames_succ_cases fuel d with ⟨f, rest, -, hroom, -⟩ | hd
    · omega
    · exact hd

/-- Behind three replies the dispatcher takes the oldest waiting frame and leaves the others (R176). -/
theorem dispatch_fourth {d : Device} {q : Frame} {r : Request} (tag : Byte) (p : List Byte) (waiting : List Frame)
    (ht : d.link.transmitting = some q) (hlen : d.link.replyQueue.length = 3) (hp : d.link.restartPending = false)
    (hr : r ≠ .restart) :
    (d.withWaiting (r.frame tag p :: waiting)).dispatch =
      (Device.answered r tag (takeRequest r p d)).withWaiting waiting := by
  have hfull : (Device.answered r tag (takeRequest r p d)).link.replyQueue.length = 4 := by
    rw [Device.answered, takeRequest_link hr, LinkPort.answered]
    simp [ht, hlen]
  have htaken : ((d.withWaiting waiting).takeFrame (r.frame tag p)).arbitrate =
      (Device.answered r tag (takeRequest r p d)).withWaiting waiting := by
    rw [takeFrame_arbitrate, takeRequest_withWaiting hr, answered_withWaiting]
  have hroom : d.link.replyQueue.length < 4 := by omega
  calc (d.withWaiting (r.frame tag p :: waiting)).dispatch
      = dispatchFrames waiting.length (((d.withWaiting waiting).takeFrame (r.frame tag p)).arbitrate) :=
        dispatchFrames_cons (d := d.withWaiting (r.frame tag p :: waiting)) rfl hroom hp waiting.length
    _ = (Device.answered r tag (takeRequest r p d)).withWaiting waiting := by
        rw [htaken, dispatchFrames_full (by exact hfull.ge)]

/-! ### The arbiter -/

theorem arbitrate_reply {d : Device} {q : Frame} {replies : List Frame} (ht : d.link.transmitting = none)
    (hq : d.link.replyQueue = q :: replies) :
    d.arbitrate = { d with link := { d.link with transmitting := some q, replyQueue := replies } } := by
  rw [Device.arbitrate, ht, hq]
  rfl

theorem arbitrate_restart {d : Device} (ht : d.link.transmitting = none) (hq : d.link.replyQueue = [])
    (hp : d.link.restartPending = true) : d.arbitrate = d := by
  rw [Device.arbitrate, ht, hq]
  exact if_pos hp

theorem arbitrate_notice {d : Device} (ht : d.link.transmitting = none) (hq : d.link.replyQueue = [])
    (hp : d.link.restartPending = false) : d.arbitrate = d.sendNotice := by
  rw [Device.arbitrate, ht, hq]
  exact if_neg (by simp [hp])

/-- With no frame waiting the arbiter's choice is all that the link port does (R176, R181). -/
theorem pump_of_arbitrate {d d' : Device} (h : d.arbitrate = d') (hq : d'.link.receiveQueue = []) : d.pump = d' := by
  rw [Device.pump, h, dispatch_nil hq]

/-! ### The end of a frame -/

/-- The transmitter is free (R180). -/
def Device.freed (d : Device) : Device := { d with link := { d.link with transmitting := none } }

theorem restartReplySending_eq_false {d : Device} {f : Frame} (ht : d.link.transmitting = some f)
    (h : d.link.restartPending = true → d.link.replyQueue = [] → f.kind ≠ 0x83) : d.restartReplySending = false := by
  rw [← Bool.not_eq_true, Device.restartReplySending_iff]
  rintro ⟨hp, hq, g, hg, hk⟩
  obtain rfl := Option.some.inj (ht.symm.trans hg)
  exact h hp hq hk

/-- The end of a frame but the RESTART reply frees the transmitter, and the link port goes on (R180, R181). -/
theorem exec_transmitComplete {s : State} {f : Frame} (hm : s.mode = .running) (ht : s.link.transmitting = some f)
    (h : s.link.restartPending = true → s.link.replyQueue = [] → f.kind ≠ 0x83) :
    exec .transmitComplete s = .next (s.become s.toDevice.freed.pump) := by
  refine (whileRunning_running hm Device.frameSent).trans ?_
  rw [Device.frameSent, ht]
  exact congrArg (fun d => Host.Outcome.next (s.become d)) (if_neg (by simp [restartReplySending_eq_false ht h]))

/-- The end of the RESTART reply begins the reset (R185). -/
theorem exec_transmitComplete_restart {s : State} {f : Frame} (hm : s.mode = .running)
    (ht : s.link.transmitting = some f) (hq : s.link.replyQueue = []) (hp : s.link.restartPending = true)
    (hk : f.kind = 0x83) : exec .transmitComplete s = .next (s.become (s.toDevice.holdReset .restart)) := by
  refine (whileRunning_running hm Device.frameSent).trans ?_
  rw [Device.frameSent, ht]
  exact congrArg (fun d => Host.Outcome.next (s.become d))
    (if_pos ((Device.restartReplySending_iff _).mpr ⟨hp, hq, f, ht, hk⟩))

/-- Settles O49: the arbiter's choice by what waits to be sent, and the one frame taken behind three replies. -/
theorem transmitCompleteArbitrates : Obligations.TransmitCompleteArbitrates := by
  refine ⟨fun s f q replies waiting r tag p hm ht hq hlen hp hw hr => ?_, fun s f hm ht hw =>
    ⟨fun q rest hq => ?_, fun hq hp => ⟨fun hk => ?_, fun hk => ?_⟩,
      fun hq hp => ⟨fun older n newer seq hn hs holder => ?_, fun hnone hfew older n newer hn hs holder => ?_,
        fun hnone hfull => ?_⟩⟩⟩
  · let d : Device := { s.toDevice with link :=
      { s.link with transmitting := some q, replyQueue := replies, receiveQueue := [] } }
    have hready : (s.become d).ready := ⟨hm, rfl, by exact hlen.trans_lt (by decide), hp⟩
    have harbitrate : s.toDevice.freed.arbitrate = d.withWaiting (r.frame tag p :: waiting) := by
      rw [arbitrate_reply (d := s.toDevice.freed) rfl hq, ← hw]
      rfl
    refine ⟨(s.become d).become (Device.answered r tag (takeRequest r p d)), exec_command_ready r tag p hready, ?_⟩
    rw [exec_transmitComplete hm ht fun h => absurd (hp.symm.trans h) Bool.false_ne_true, Device.pump, harbitrate,
      dispatch_fourth (d := d) tag p waiting rfl hlen hp hr]
    rfl
  · rw [exec_transmitComplete hm ht fun _ h => absurd (hq.symm.trans h) (List.cons_ne_nil _ _),
      pump_of_arbitrate (arbitrate_reply (d := s.toDevice.freed) rfl hq) hw]
    rfl
  · exact ⟨_, exec_transmitComplete_restart hm ht hq hp hk, initial_inResetOf _ _ _ _, rfl, rfl⟩
  · rw [exec_transmitComplete hm ht fun _ _ => hk,
      pump_of_arbitrate (arbitrate_restart (d := s.toDevice.freed) rfl hq hp) hw]
    rfl
  all_goals have hend := exec_transmitComplete hm ht fun h => absurd (hp.symm.trans h) Bool.false_ne_true
  · have hsend := sendNotice_marked (d := s.toDevice.freed) hn holder (isMarked_eq_true.mpr ⟨seq, hs⟩)
    rw [Notice.resent_of_sent hs] at hsend
    rw [hend, pump_of_arbitrate ((arbitrate_notice (d := s.toDevice.freed) rfl hq hp).trans hsend) hw]
    rfl
  · have hsend := sendNotice_unsent (d := s.toDevice.freed) hnone hfew hn holder hs
    rw [hend, pump_of_arbitrate ((arbitrate_notice (d := s.toDevice.freed) rfl hq hp).trans hsend) ?_]
    · rfl
    · split <;> exact hw
  · have hsend := sendNotice_none (d := s.toDevice.freed) hnone hfull
    rw [hend, pump_of_arbitrate ((arbitrate_notice (d := s.toDevice.freed) rfl hq hp).trans hsend) hw]
    rfl

end Sys2Proof.Machine
end

section
/-! The step and the answer of every command: no command stops the machine or touches the queue (R175, R177, R179). -/

namespace Sys2Proof.Machine

/-- Settles O1: with a command waiting, the step's first branch. -/
theorem stepRunsFrontCommand : Obligations.StepRunsFrontCommand := by
  intro s c rest hpending
  rw [step, hpending]

/-- The command answers a next state and leaves the queue of waiting commands. -/
def AnswersNext (s : State) (o : Host.Outcome State Fault Refusal) : Prop :=
  ∃ t, o = .next t ∧ t.pending = s.pending

/-- A command that acts on the running device alone answers whether the device runs or not. -/
theorem whileRunning_answersNext (f : Device → Device) (s : State) : AnswersNext s (whileRunning f s) := by
  cases hm : s.mode with
  | running => exact ⟨_, whileRunning_running hm f, rfl⟩
  | held cause => exact ⟨_, whileRunning_held hm f, rfl⟩

/-- Settles O3: the resets act in every mode, and every other command on the running device alone. -/
theorem everyCommandAnswersNext : Obligations.EveryCommandAnswersNext := by
  intro c s
  cases c with
  | restartReset pins spd => exact ⟨_, rfl, rfl⟩
  | powerOn rstN pins spd => exact ⟨_, rfl, rfl⟩
  | rstNAssert => exact ⟨_, rfl, rfl⟩
  | rstNRelease pins spd => exact ⟨_, rfl, rfl⟩
  | _ => exact whileRunning_answersNext _ s

end Sys2Proof.Machine
end

section
/-! IDENTIFY, TIME_GET and LINK_QUERY (R3, R182, R183). -/

namespace Sys2Proof.Machine

theorem takeIdentify_eq (p : List Byte) (d : Device) :
    takeIdentify p d =
      (d, if p = [] then [0x00, 0x5D, 0x24, 0x16, 0x01, 24, 16, 8, 8, 32, 50] ++ beBytes 6 d.elapsed else [0x11]) := by
  cases p <;> rfl

theorem takeTimeGet_badLength {p : List Byte} (h : p ≠ []) (d : Device) : takeTimeGet p d = (d, [0x11]) :=
  if_pos fun hlen => h (List.length_eq_zero_iff.mp hlen)

/-- Settles O12: both reports are read off the definitions; wall time within its 48 bits is sent as it is. -/
theorem identifyAndTimeGetReport : Obligations.IdentifyAndTimeGetReport := by
  refine ⟨fun s tag p hready => exec_taken hready .identify tag (takeIdentify_eq p _), fun s tag p hready =>
    ⟨fun hp => exec_taken hready .timeGet tag (takeTimeGet_badLength hp _), ?_⟩⟩
  rintro rfl
  refine ⟨beBytes 6 (wallValue s.wall), length_beBytes _ _, fun h0 hmax => ?_, exec_taken hready .timeGet tag rfl⟩
  exact congrArg (beBytes 6) (wallValue_of_fits h0 hmax)

/-- LINK_QUERY of one byte, by its clear argument (R183). -/
theorem takeLinkQuery_clear (clear : Byte) (d : Device) :
    takeLinkQuery [clear] d =
      if clear = 0 then (d, 0x00 :: d.link.counters.fields)
      else if clear = 1 then (d.setCounters LinkCounters.zero, 0x00 :: d.link.counters.fields)
      else (d, [0x12]) := by
  rw [takeLinkQuery, if_neg (by simp), byteAt_cons_zero]
  split
  · next h => rw [if_pos (BitVec.eq_of_toNat_eq h)]; rfl
  · next h =>
    obtain rfl : clear = 1 := BitVec.eq_of_toNat_eq h
    rfl
  · next h0 h1 =>
    rw [if_neg fun h => h0 (by rw [h]; rfl), if_neg fun h => h1 (by rw [h]; rfl)]
    rfl

/-- Settles O13: the report with each clear argument. -/
theorem linkQueryReportsAndClears : Obligations.LinkQueryReportsAndClears := by
  intro s tag clear hready
  have answers {d : Device} {reply : List Byte} (h : takeLinkQuery [clear] s.toDevice = (d, reply)) :
      exec (.linkQuery tag [clear]) s = .next (s.answers d .linkQuery tag reply) :=
    exec_taken hready .linkQuery tag h
  refine ⟨fun p hlen => exec_taken hready .linkQuery tag (if_pos hlen), fun h0 => answers ?_, fun h1 => answers ?_,
    fun h0 h1 => answers ?_⟩
  · rw [takeLinkQuery_clear, if_pos h0]
  · rw [takeLinkQuery_clear, if_neg (by rw [h1]; decide), if_pos h1]
    rfl
  · rw [takeLinkQuery_clear, if_neg h0, if_neg h1]

end Sys2Proof.Machine
end

section
/-! Frames that cannot be taken at once, and taken frames of a kind that names no request (R174, R176, R178). -/

namespace Sys2Proof.Machine

section
variable {d : Device} (hp : d.link.restartPending = false) (f : Frame)

theorem deliverFrame_discarded (h : d.link.restartPending = true) : d.deliverFrame f = d := if_pos h

include hp

/-- Behind four waiting frames a good frame is an overrun (R174). -/
theorem deliverFrame_overrun (hq : 4 ≤ d.link.receiveQueue.length) :
    d.deliverFrame f =
      d.setCounters { d.link.counters with overrun := min (d.link.counters.overrun + 1) 65535 } := by
  rw [Device.deliverFrame, if_neg (by simp [hp]), if_neg (by exact not_lt.mpr hq)]
  rfl

/-- Behind four waiting replies a good frame waits (R174, R176). -/
theorem deliverFrame_waits (hq : d.link.receiveQueue.length < 4) (hr : 4 ≤ d.link.replyQueue.length) :
    d.deliverFrame f = { d with link := { d.link with receiveQueue := d.link.receiveQueue ++ [f] } } := by
  rw [Device.deliverFrame, if_neg (by simp [hp]), if_pos (by exact hq)]
  exact dispatchFrames_full (by exact hr) _

end

/-- The answer to a frame whose kind names no request (R178, R190). -/
theorem answer_unknown {f : Frame} (h : Request.ofCode f.kind = none) (d : Device) :
    answer f d =
      (d.setCounters { d.link.counters with unknownRequest := min (d.link.counters.unknownRequest + 1) 65535 },
        { kind := 0xFF, tag := f.tag, payload := [0x10, f.kind] }) := by
  rw [answer, h]
  rfl

/-- Settles O11: what becomes of a good frame by the queues before it, and the answer to an unknown kind. -/
theorem untakenAndUnknownFrames : Obligations.UntakenAndUnknownFrames := by
  constructor
  · intro s r tag p hm
    rw [exec_command, whileRunning_running hm]
    refine ⟨fun hp => next_become_self (deliverFrame_discarded _ hp), fun hp hq => ?_, fun hp hq hr => ?_⟩
    · rw [deliverFrame_overrun hp _ hq]
      rfl
    · rw [deliverFrame_waits hp _ hq hr]
  · intro s kind tag p ⟨hm, hq, hr, hp⟩ hkind
    refine (whileRunning_running hm _).trans ?_
    rw [Device.deliverFrame_ready hq hr hp, answer_unknown hkind]
    rfl

end Sys2Proof.Machine
end

section
/-! Requests of the wrong length (R179, R190, R191). -/

namespace Sys2Proof.Machine

variable {p : List Byte} (d : Device)

theorem takeTimerDefine_badLength (h : Request.timerDefine.lengthFits p = false) :
    takeTimerDefine p d = (d, 0x11 :: p.take 1) := by
  refine if_pos ?_
  rw [← Bool.not_eq_true, lengthFits_timerDefine] at h
  omega

theorem takeInputConfig_badLength (h : Request.inputConfig.lengthFits p = false) :
    takeInputConfig p d = (d, 0x11 :: p.take 1) := by
  refine if_pos ?_
  have hrole : p.getD 1 0 = 2 ↔ byteAt p 1 = 2 := BitVec.toNat_inj.symm
  simp only [Request.lengthFits, Bool.and_eq_false_iff, decide_eq_false_iff_not, beq_eq_false_iff_ne, hrole] at h
  unfold inputConfigLength
  omega

/-- The first byte selects the form of WATCH_RETUNE, and so its length (R191). -/
theorem takeWatchRetune_badLength (h : Request.watchRetune.lengthFits p = false) :
    takeWatchRetune p d = (d, 0x11 :: p.take 1) := by
  have hid : p.getD 0 0 = 0 ↔ byteAt p 0 = 0 := BitVec.toNat_inj.symm
  simp only [Request.lengthFits, Bool.and_eq_false_iff, decide_eq_false_iff_not, beq_eq_false_iff_ne, hid] at h
  unfold takeWatchRetune
  split
  · rfl
  · split
    · next hzero =>
      rw [if_pos hzero] at h
      exact if_pos (by omega)
    · next hzero =>
      rw [if_neg hzero] at h
      exact if_pos (by omega)

theorem takeWatchRetire_badLength (h : p.length ≠ 1) : takeWatchRetire p d = (d, 0x11 :: p.take 1) := by
  rw [takeWatchRetire, if_neg (by simp [h])]
  exact withWatch_badLength h d _

/-- Every request checks its length before all else (R179). -/
theorem takeRequest_badLength {r : Request} (h : r.lengthFits p = false) :
    takeRequest r p d = (d, 0x11 :: if r.echoes = true then p.take 1 else []) := by
  cases r with
  | timerDefine => exact takeTimerDefine_badLength d h
  | watchRetune => exact takeWatchRetune_badLength d h
  | inputConfig => exact takeInputConfig_badLength d h
  | watchRetire => exact takeWatchRetire_badLength d (beq_eq_false_iff_ne.mp h)
  | _ => exact if_pos (beq_eq_false_iff_ne.mp h)

/-- Settles O9: the length is the first check of every request. -/
theorem wrongLengthRefused : Obligations.WrongLengthRefused := fun _ r tag _ hready h =>
  exec_taken hready r tag (takeRequest_badLength _ h)

end Sys2Proof.Machine
end

section
/-! The reply of every request: its status, that a refusal leaves the device, and its length (R177, R190). -/

namespace Sys2Proof.Machine

/-- What taking a request leaves is a proper answer: a status of a known request with fields, the device as it was where
the status refuses, a payload of at most 56 bytes. -/
structure Device.Replies (d : Device) (x : Taken) : Prop where
  status : ∃ st fields, x.2 = Status.code st :: fields ∧ st ≠ .unknownRequest ∧ (st.refuses = true → x.1 = d)
  fits : d.fault.entries.length ≤ 4 → x.2.length ≤ 56

section
variable {d : Device}

/-- An outcome that is no refusal may change the device. -/
theorem Device.Replies.accepted {d' : Device} {st : Status} {reply : List Byte} (hst : st.refuses = false)
    (hreply : reply.head? = some st.code) (hlen : reply.length ≤ 56) : d.Replies (d', reply) where
  status := by
    obtain ⟨fields, rfl⟩ := List.head?_eq_some_iff.mp hreply
    exact ⟨st, fields, rfl, by rintro rfl; exact absurd hst (by decide), fun h => by simp [hst] at h⟩
  fits := fun _ => hlen

/-- A reply that leaves the device. -/
theorem Device.Replies.unchanged {st : Status} {fields : List Byte} (hlen : fields.length ≤ 55)
    (hst : st ≠ .unknownRequest) : d.Replies (d, st.code :: fields) where
  status := ⟨st, fields, rfl, hst, fun _ => rfl⟩
  fits := fun _ => Nat.succ_le_succ hlen

theorem Device.Replies.refuseEcho {st : Status} (p : List Byte) (hst : st ≠ .unknownRequest) :
    d.Replies (refuseEcho st p d) :=
  .unchanged (by rw [List.length_take]; omega) hst

theorem Device.Replies.refusePlain {st : Status} (hst : st ≠ .unknownRequest) :
    d.Replies (refusePlain st d) :=
  .unchanged (Nat.zero_le _) hst

/-! ### Lengths of fields -/

theorem length_optInstant (t : Option Nat) : (optInstant t).length = 7 := by
  cases t <;> simp [optInstant]

theorem length_timerReply (t : Fin 24) (d : Device) : (timerReply t d).length = 9 := by
  simp [timerReply, length_optInstant]

theorem length_checkinReply (w : Fin 16) (d : Device) : (checkinReply w d).length = 4 := by
  unfold checkinReply
  split <;> rfl

theorem length_stepField (step : Int) : (stepField step).length = 6 := by
  unfold stepField
  split <;> exact length_beBytes _ _

theorem length_ownerCode (o : Owner) : o.code.length = 2 := by
  cases o <;> rfl

/-- A flat list of at most k parts of a known length each. -/
theorem length_flatMap_le {α : Type} {f : α → List Byte} {n k : Nat} (hf : ∀ a, (f a).length = n) {l : List α}
    (hl : l.length ≤ k) : (l.flatMap f).length ≤ k * n := by
  rw [List.length_flatMap, List.map_congr_left fun a _ => hf a, List.map_const', List.sum_replicate_nat]
  exact Nat.mul_le_mul_right n hl

theorem length_entryFields (e : Entry) : e.fields.length = 8 := by
  simp [Entry.fields, length_ownerCode]

theorem length_tripFields (gen : Nat) (e : TripEntry) : (e.fields gen).length = 13 := by
  simp [TripEntry.fields, elapsedField]

theorem length_roleFields (role : Role) : role.fields.length = 4 := by
  cases role <;> rfl

theorem length_watchSourceFields (src : WatchSource) : src.fields.length = 3 := by
  cases src <;> rfl

theorem length_linkWatchFields (w : Fin 16) (lw : LinkWatch) : (LinkWatch.fields w lw).length = 4 := by
  unfold LinkWatch.fields
  split <;> rfl

theorem length_timerSourceFields (src : TimerSource) : src.fields.length = 3 := by
  cases src <;> rfl

/-- A definition with every optional part has 21 bytes behind its id (Table 11-8). -/
theorem length_definitionBytes_le (r : TimerRec) : r.definitionBytes.length ≤ 21 := by
  have hparts : r.source.scalePart.length ≤ 1 ∧ r.kind.duePart.length ≤ 6 ∧ r.outputPart.length ≤ 4 ∧
      r.notice.toList.length ≤ 1 ∧ r.triggerPart.length ≤ 1 := by
    refine ⟨?_, ?_, ?_, ?_, ?_⟩
    · cases r.source <;> simp [TimerSource.scalePart]
    · cases r.kind <;> simp [TimerKind.duePart]
    · unfold TimerRec.outputPart
      cases r.output <;> simp
    · cases r.notice <;> simp
    · unfold TimerRec.triggerPart
      cases r.trigger <;> simp
  have hsum : r.definitionBytes.length = 3 + 2 + 3 + r.source.scalePart.length + r.kind.duePart.length +
      r.outputPart.length + r.notice.toList.length + r.triggerPart.length := by
    simp only [TimerRec.definitionBytes, List.length_append, length_beBytes, length_timerSourceFields]
    rfl
  omega

/-! ### Requests on timers -/

section
variable (p : List Byte)

theorem withTimer_replies {act : Fin 24 → TimerRec → Taken} (h : ∀ t r, d.Replies (act t r)) :
    d.Replies (withTimer p d act) := by
  unfold withTimer
  split
  · exact .refuseEcho p (by decide)
  · split
    · exact .refuseEcho p (by decide)
    · split
      · exact .refuseEcho p (by decide)
      · exact h _ _

/-- A choice between two statuses of known requests. -/
theorem ite_known {c : Prop} [Decidable c] {a b : Status} (hb : b ≠ .unknownRequest)
    (ha : a ≠ .unknownRequest := by decide) : (if c then a else b) ≠ .unknownRequest := by
  split
  · exact ha
  · exact hb

theorem timerDefineCheck_known (d : Device) (t : Fin 24) (r : TimerRec) :
    d.timerDefineCheck t r ≠ .unknownRequest := by
  have hchain : d.chainCheck t r.source ≠ .unknownRequest := by
    unfold Device.chainCheck
    cases r.source with
    | time sc => exact nofun
    | input n e => exact nofun
    | parent u => exact ite_known (ite_known (by decide))
  exact ite_known (ite_known (ite_known (ite_known hchain)))

theorem takeTimerDefine_replies : d.Replies (takeTimerDefine p d) := by
  unfold takeTimerDefine
  split
  · exact .refuseEcho p (by decide)
  · split
    · exact .refuseEcho p (by decide)
    · split
      · exact .refuseEcho p (by decide)
      · split
        · exact .accepted (by split <;> rfl) rfl (by simp)
        · exact .refuseEcho p (timerDefineCheck_known d _ _)

theorem takeTimerStart_replies : d.Replies (takeTimerStart p d) :=
  withTimer_replies p fun t r => by
    cases r.state with
    | idle => exact .accepted (st := .ok) rfl rfl (by simp [length_timerReply])
    | running => exact .refuseEcho p (by decide)
    | paused => exact .refuseEcho p (by decide)

theorem takeTimerPause_replies : d.Replies (takeTimerPause p d) :=
  withTimer_replies p fun t r => by
    cases r.kind with
    | absolute due => exact .refuseEcho p (by decide)
    | relative =>
      cases r.state with
      | running => exact .accepted (st := .ok) rfl rfl (by simp [timerShortReply])
      | idle => exact .refuseEcho p (by decide)
      | paused => exact .refuseEcho p (by decide)

theorem takeTimerResume_replies : d.Replies (takeTimerResume p d) :=
  withTimer_replies p fun t r => by
    cases r.state with
    | paused => exact .accepted (st := .ok) rfl rfl (by simp [length_timerReply])
    | idle => exact .refuseEcho p (by decide)
    | running => exact .refuseEcho p (by decide)

theorem takeTimerFree_replies : d.Replies (takeTimerFree p d) :=
  withTimer_replies p fun t r => by
    dsimp only
    split
    · exact .refuseEcho p (by decide)
    · cases r.state with
      | idle => exact .accepted (st := .ok) rfl rfl (by simp [timerShortReply])
      | running => exact .refuseEcho p (by decide)
      | paused => exact .refuseEcho p (by decide)

theorem takeTimerQuery_replies : d.Replies (takeTimerQuery p d) :=
  withTimer_replies p fun t r => by
    have hdef := length_definitionBytes_le r
    refine .accepted (st := .ok) rfl rfl ?_
    simp only [timerShortReply, List.length_append, List.length_cons, List.length_nil, length_beBytes,
      remainingField_length, length_optInstant]
    omega

/-! ### Requests on watches -/

theorem withWatch_replies {act : Fin 16 → WatchRec → Taken} (h : ∀ w r, d.Replies (act w r)) :
    d.Replies (withWatch p d act) := by
  unfold withWatch
  split
  · exact .refuseEcho p (by decide)
  · split
    · exact .refuseEcho p (by decide)
    · split
      · exact .refuseEcho p (by decide)
      · exact h _ _

/-- The phase rule's three outcomes are no refusals (R177). -/
theorem checkinAnswer_replies (w : Fin 16) (res : Device × Judgement) : d.Replies (checkinAnswer w res) :=
  .accepted (by cases res.2 <;> rfl) rfl (by simp [length_checkinReply])

theorem withLinkCheckin_replies {act : Fin 16 → WatchRec → Taken} (h : ∀ w r, d.Replies (act w r)) :
    d.Replies (withLinkCheckin p d act) :=
  withWatch_replies p fun w r => by
    cases r.source with
    | line n a => exact .refuseEcho p (by decide)
    | link =>
      cases r.state with
      | dormant => exact .refuseEcho p (by decide)
      | _ => exact h w r

theorem takeWatchDefine_replies : d.Replies (takeWatchDefine p d) := by
  unfold takeWatchDefine
  split
  · exact .refuseEcho p (by decide)
  · split
    · split
      · exact .refuseEcho p (by decide)
      · split
        · exact .refuseEcho p (by decide)
        · split
          · exact .refuseEcho p (by decide)
          · exact .accepted (st := .ok) rfl rfl (by simp)
    · exact .refuseEcho p (by decide)

theorem takeWatchStart_replies : d.Replies (takeWatchStart p d) :=
  withWatch_replies p fun w r => by
    dsimp only
    split
    · exact .accepted (st := .ok) rfl rfl (by simp)
    · exact .refuseEcho p (by decide)

theorem retuneState_replies (st : WatchState) {act : Taken} (h : d.Replies act) :
    d.Replies (retuneState p d st act) := by
  cases st with
  | running => exact h
  | warn => exact h
  | _ => exact .refuseEcho p (by decide)

theorem takeRetuneLink_replies : d.Replies (takeRetuneLink p d) := by
  unfold takeRetuneLink
  split
  · exact .refuseEcho p (by decide)
  · split
    · exact .refuseEcho p (by decide)
    · split
      · split
        · exact .refuseEcho p (by decide)
        · exact retuneState_replies p _ (checkinAnswer_replies 0 _)
      · exact .refuseEcho p (by decide)

theorem takeWatchRetune_replies : d.Replies (takeWatchRetune p d) := by
  unfold takeWatchRetune
  split
  · exact .refuseEcho p (by decide)
  · split
    · exact takeRetuneLink_replies p
    · split
      · exact .refuseEcho p (by decide)
      · split
        · exact .refuseEcho p (by decide)
        · split
          · split
            · exact .refuseEcho p (by decide)
            · split
              · exact .refuseEcho p (by decide)
              · exact retuneState_replies p _ (checkinAnswer_replies _ _)
          · exact .refuseEcho p (by decide)

theorem takeWatchRetire_replies : d.Replies (takeWatchRetire p d) := by
  unfold takeWatchRetire
  split
  · exact .refuseEcho p (by decide)
  · refine withWatch_replies p fun w r => ?_
    cases r.state with
    | dormant => exact .accepted (st := .ok) rfl rfl (by simp [length_checkinReply])
    | running => exact checkinAnswer_replies w _
    | warn => exact checkinAnswer_replies w _
    | tripped => exact .refuseEcho p (by decide)
    | releasing => exact .refuseEcho p (by decide)

theorem takeWatchRelease_replies : d.Replies (takeWatchRelease p d) :=
  withWatch_replies p fun w r => by
    dsimp only
    split
    · exact .refuseEcho p (by decide)
    · split
      · exact .unchanged (by simp [length_checkinReply]) (by decide)
      · exact .accepted (st := .ok) rfl rfl (by simp [length_checkinReply, length_optInstant])

theorem takeWatchQuery_replies : d.Replies (takeWatchQuery p d) :=
  withWatch_replies p fun w r => by
    refine .accepted (st := .ok) rfl (by simp only [List.cons_append, List.head?_cons]) ?_
    simp [length_watchSourceFields, length_optInstant, length_linkWatchFields]

theorem takeRestart_replies : d.Replies (takeRestart p d) := by
  unfold takeRestart
  split
  · exact .refusePlain (by decide)
  · dsimp only
    split
    · exact .accepted (st := .ok) rfl rfl (by simp [length_checkinReply])
    · exact checkinAnswer_replies 0 _
    · exact checkinAnswer_replies 0 _

/-! ### The other requests -/

theorem takeIdentify_replies : d.Replies (takeIdentify p d) := by
  unfold takeIdentify
  split
  · exact .refusePlain (by decide)
  · exact .accepted (st := .ok) rfl rfl (by simp)

theorem takeLinkQuery_replies : d.Replies (takeLinkQuery p d) := by
  have hfields : (Status.ok.code :: d.link.counters.fields).length ≤ 56 := by simp [LinkCounters.fields]
  unfold takeLinkQuery
  split
  · exact .refusePlain (by decide)
  · split
    · exact .accepted (st := .ok) rfl rfl hfields
    · exact .accepted (st := .ok) rfl rfl hfields
    · exact .refusePlain (by decide)

theorem takeTimeSet_replies : d.Replies (takeTimeSet p d) := by
  unfold takeTimeSet
  split
  · exact .refusePlain (by decide)
  · split
    · exact .refusePlain (by decide)
    · exact .accepted (st := .ok) rfl rfl (by simp [length_stepField])

theorem takeTimeGet_replies : d.Replies (takeTimeGet p d) := by
  unfold takeTimeGet
  split
  · exact .refusePlain (by decide)
  · exact .accepted (st := .ok) rfl rfl (by simp)

theorem takeScheduleQuery_replies : d.Replies (takeScheduleQuery p d) := by
  have hwindow := length_flatMap_le length_entryFields
    (l := (d.deadlines.drop (byteAt p 0)).take 6) (List.length_take_le _ _)
  unfold takeScheduleQuery
  split
  · exact .refusePlain (by decide)
  · refine .accepted (st := .ok) rfl rfl ?_
    simp only [List.length_append, List.length_cons, List.length_nil]
    omega

theorem takeLineSet_replies : d.Replies (takeLineSet p d) := by
  unfold takeLineSet
  split
  · exact .refuseEcho p (by decide)
  · split
    · split
      · exact .refuseEcho p (by decide)
      · exact .accepted (st := .ok) rfl rfl (by simp)
    · exact .refuseEcho p (by decide)

theorem takeLineConfig_replies : d.Replies (takeLineConfig p d) := by
  unfold takeLineConfig
  split
  · exact .refuseEcho p (by decide)
  · split
    · split
      · exact .refuseEcho p (by decide)
      · split
        · exact .refuseEcho p (by decide)
        · split
          · exact .refuseEcho p (by decide)
          · exact .accepted (st := .ok) rfl rfl (by simp)
    · exact .refuseEcho p (by decide)

theorem takeLineHold_replies : d.Replies (takeLineHold p d) := by
  unfold takeLineHold
  split
  · exact .refusePlain (by decide)
  · exact .accepted (st := .ok) rfl rfl (by simp [holdReply])

theorem takeLineUnhold_replies : d.Replies (takeLineUnhold p d) := by
  unfold takeLineUnhold
  split
  · exact .refusePlain (by decide)
  · exact .accepted (st := .ok) rfl rfl (by simp [holdReply])

theorem takeLineQuery_replies : d.Replies (takeLineQuery p d) := by
  unfold takeLineQuery
  split
  · exact .refuseEcho p (by decide)
  · split
    · exact .refuseEcho p (by decide)
    · exact .accepted (st := .ok) rfl rfl (by simp [length_optInstant])

theorem takeInputConfig_replies : d.Replies (takeInputConfig p d) := by
  unfold takeInputConfig
  split
  · exact .refuseEcho p (by decide)
  · split
    · split
      · exact .refuseEcho p (by decide)
      · split
        · exact .refuseEcho p (by decide)
        · split
          · exact .refuseEcho p (by decide)
          · exact .accepted (st := .ok) rfl rfl (by simp [length_roleFields])
    · exact .refuseEcho p (by decide)

theorem takeInputQuery_replies : d.Replies (takeInputQuery p d) := by
  unfold takeInputQuery
  split
  · exact .refuseEcho p (by decide)
  · split
    · exact .refuseEcho p (by decide)
    · exact .accepted (st := .ok) rfl rfl (by simp [length_roleFields])

theorem takeNoticeAck_replies : d.Replies (takeNoticeAck p d) := by
  unfold takeNoticeAck
  split
  · exact .refusePlain (by decide)
  · split
    · exact .unchanged (by simp [ackCounts]) (by decide)
    · exact .accepted (st := .ok) rfl rfl (by simp [ackCounts])

/-- Four trip entries fill the reply to its last byte (R190). -/
theorem takeFaultQuery_replies : d.Replies (takeFaultQuery p d) := by
  unfold takeFaultQuery
  split
  · exact .refusePlain (by decide)
  · refine ⟨⟨.ok, _, rfl, nofun, fun _ => rfl⟩, fun h => ?_⟩
    have htrips := length_flatMap_le (length_tripFields d.fault.generation) h
    simp only [List.length_append, List.length_cons, List.length_nil, length_beBytes]
    omega

theorem takeFaultClear_replies : d.Replies (takeFaultClear p d) := by
  unfold takeFaultClear
  split
  · exact .refusePlain (by decide)
  · exact .accepted (st := .ok) rfl rfl (by simp)

/-! ### Every request -/

theorem takeRequest_replies (r : Request) (d : Device) : d.Replies (takeRequest r p d) := by
  cases r with
  | identify => exact takeIdentify_replies p
  | linkQuery => exact takeLinkQuery_replies p
  | restart => exact takeRestart_replies p
  | timeSet => exact takeTimeSet_replies p
  | timeGet => exact takeTimeGet_replies p
  | scheduleQuery => exact takeScheduleQuery_replies p
  | timerDefine => exact takeTimerDefine_replies p
  | timerStart => exact takeTimerStart_replies p
  | timerStop => exact withTimer_replies p fun t r => .accepted (st := .ok) rfl rfl (by simp [timerShortReply])
  | timerPause => exact takeTimerPause_replies p
  | timerResume => exact takeTimerResume_replies p
  | timerFree => exact takeTimerFree_replies p
  | timerQuery => exact takeTimerQuery_replies p
  | watchDefine => exact takeWatchDefine_replies p
  | watchStart => exact takeWatchStart_replies p
  | checkPrep => exact withLinkCheckin_replies p fun w _ => checkinAnswer_replies w _
  | checkConf => exact withLinkCheckin_replies p fun w _ => checkinAnswer_replies w _
  | watchRetune => exact takeWatchRetune_replies p
  | watchRetire => exact takeWatchRetire_replies p
  | watchRelease => exact takeWatchRelease_replies p
  | watchQuery => exact takeWatchQuery_replies p
  | lineConfig => exact takeLineConfig_replies p
  | lineSet => exact takeLineSet_replies p
  | lineHold => exact takeLineHold_replies p
  | lineUnhold => exact takeLineUnhold_replies p
  | lineQuery => exact takeLineQuery_replies p
  | inputConfig => exact takeInputConfig_replies p
  | inputQuery => exact takeInputQuery_replies p
  | noticeAck => exact takeNoticeAck_replies p
  | faultQuery => exact takeFaultQuery_replies p
  | faultClear => exact takeFaultClear_replies p

end

end

/-- Settles O8: the reply that `takeRequest` gives begins with a status, and a refusal leaves the device. -/
theorem everyRequestAnswered : Obligations.EveryRequestAnswered := by
  intro s r tag p hready
  obtain ⟨st, fields, hreply, hst, hrefused⟩ := (takeRequest_replies p r s.toDevice).status
  refine ⟨(takeRequest r p s.toDevice).1, st, fields, ?_, hst, hrefused⟩
  rw [exec_command_ready r tag p hready, hreply]

/-- The fields of a notice's own kind have at most 8 bytes (Table 11-13). -/
theorem length_details_le (body : NoticeBody) : body.details.length ≤ 8 := by
  cases body <;> simp [NoticeBody.details]

theorem length_subject (body : NoticeBody) : body.subject.length = 2 := by
  cases body <;> rfl

/-- Settles O10: each reply by its kind; a notice's fixed fields have 13 bytes. -/
theorem payloadsFitTheirFrames : Obligations.PayloadsFitTheirFrames := by
  refine ⟨fun r p d => (takeRequest_replies p r d).fits, fun n => ?_⟩
  have hdetails := length_details_le n.body
  simp only [Notice.frame, List.length_append, List.length_cons, List.length_nil, length_beBytes, length_subject]
  omega

end Sys2Proof.Machine
end

section
/-! The receive assembly: what each byte and each gap does (R170 to R173). -/

namespace Sys2Proof.Machine

/-! ### One byte -/

section
variable {d : Device} {b len : Byte} {got more : List Byte}

theorem receiveByte_start (h : d.link.assembly = .hunting) :
    d.receiveByte 0xC3 = d.setAssembly (.assembling []) := by
  rw [Device.receiveByte, h]
  exact if_pos rfl

theorem receiveByte_noise (h : d.link.assembly = .hunting) (hb : b ≠ 0xC3) :
    d.receiveByte b =
      d.setCounters { d.link.counters with noise := min (d.link.counters.noise + 1) 65535 } := by
  rw [Device.receiveByte, h]
  exact if_neg hb

theorem receiveByte_badLength (h : d.link.assembly = .assembling []) (hb : 56 < b.toNat) :
    d.receiveByte b = (d.setAssembly .hunting).setCounters
      { d.link.counters with badLength := min (d.link.counters.badLength + 1) 65535 } := by
  rw [Device.receiveByte, h]
  exact if_pos hb

theorem receiveByte_length (h : d.link.assembly = .assembling []) (hb : b.toNat ≤ 56) :
    d.receiveByte b = d.setAssembly (.assembling [b]) := by
  rw [Device.receiveByte, h]
  exact if_neg (by exact not_lt.mpr hb)

theorem receiveByte_content (h : d.link.assembly = .assembling (len :: more))
    (hlen : more.length + 2 ≠ len.toNat + 5) :
    d.receiveByte b = d.setAssembly (.assembling (len :: more ++ [b])) := by
  rw [Device.receiveByte, h]
  exact if_neg (by simpa using hlen)

theorem receiveByte_last (h : d.link.assembly = .assembling (len :: more))
    (hlen : more.length + 2 = len.toNat + 5) : d.receiveByte b = d.completeFrame (len :: more ++ [b]) := by
  rw [Device.receiveByte, h]
  exact if_pos (by simpa using hlen)

theorem gapTimeout_hunting (h : d.link.assembly = .hunting) : d.gapTimeout = d := by
  rw [Device.gapTimeout, h]

theorem gapTimeout_assembling (h : d.link.assembly = .assembling got) :
    d.gapTimeout = (d.setAssembly .hunting).setCounters
      { d.link.counters with gap := min (d.link.counters.gap + 1) 65535 } := by
  rw [Device.gapTimeout, h]
  rfl

end

/-! ### The last byte -/

/-- Two bytes that are the field of a word make that word (R188). -/
theorem eq_append_of_beBytes_two {hi lo : Byte} {c : BitVec 16} (h : [hi, lo] = beBytes 2 c.toNat) : c = hi ++ lo := by
  have hvalue : hi.toNat * 256 + lo.toNat = c.toNat % 256 ^ 2 := by
    rw [← beValue_beBytes, ← h]
    simp [beValue]
  apply BitVec.eq_of_toNat_eq
  rw [BitVec.toNat_append, ← Nat.shiftLeft_add_eq_or_of_lt lo.isLt, Nat.shiftLeft_eq]
  omega

/-- A frame whose CRC differs returns the assembly to HUNTING and is counted (R172). -/
theorem completeFrame_badCrc {d : Device} {len hi lo : Byte} {content : List Byte}
    (hlen : content.length = len.toNat + 2) (hcrc : crc16 (len :: content) ≠ hi ++ lo) :
    d.completeFrame (len :: (content ++ [hi]) ++ [lo]) = (d.setAssembly .hunting).setCounters
      { d.link.counters with badCrc := min (d.link.counters.badCrc + 1) 65535 } := by
  have hgot : len :: (content ++ [hi]) ++ [lo] = (len :: content) ++ [hi, lo] := by simp
  have hcovered : byteAt ((len :: content) ++ [hi, lo]) 0 + 3 = (len :: content).length := by simp [hlen]
  unfold Device.completeFrame
  rw [hgot, hcovered, List.take_left, List.drop_left]
  exact if_neg fun h => hcrc (eq_append_of_beBytes_two h)

/-- Settles O48: each clause is what one byte, or one gap, does to the assembly. -/
theorem receptionFaultsCounted : Obligations.ReceptionFaultsCounted := by
  intro s b hm c port
  have receives {c : Instr} {byte : Byte} {d : Device} (hc : exec c s = whileRunning (Device.receiveByte byte) s)
      (h : s.toDevice.receiveByte byte = d) : exec c s = .next (s.become d) := by
    rw [hc, whileRunning_running hm, h]
  have gap {d : Device} (h : s.toDevice.gapTimeout = d) : exec .gapTimeout s = .next (s.become d) := by
    rw [← h]
    exact whileRunning_running hm _
  refine ⟨fun ha => ⟨receives rfl (receiveByte_start ha), gap (gapTimeout_hunting ha),
      fun hb => receives rfl (receiveByte_noise ha hb)⟩,
    fun ha => ⟨fun hb => receives rfl (receiveByte_badLength ha hb), fun hb => receives rfl (receiveByte_length ha hb)⟩,
    fun len more ha => ⟨fun hlen => receives rfl (receiveByte_content ha hlen.ne), ?_⟩,
    fun got ha => gap (gapTimeout_assembling ha)⟩
  rintro hi content rfl hlen hcrc
  exact receives rfl ((receiveByte_last ha (by simp [hlen])).trans (completeFrame_badCrc hlen hcrc))

end Sys2Proof.Machine
end

section
/-! A frame received byte by byte (R169 to R174): its bytes are assembled one after another, and the last one delivers
the frame. -/

namespace Sys2Proof.Machine

/-! ### The bytes of a frame -/

/-- The bytes of a frame behind its start byte (Table 11-1). -/
def Frame.body (f : Frame) : List Byte := f.covered ++ beBytes 2 (crc16 f.covered).toNat

section
variable (f : Frame)

theorem wire_drop_one : f.wire.drop 1 = f.body := rfl

theorem length_covered : f.covered.length = f.payload.length + 3 := by
  simp [Frame.covered]

theorem length_body : f.body.length = f.payload.length + 5 := by
  simp [Frame.body, length_covered]

/-- The body is its content and the last byte on the wire. -/
theorem body_eq_content_append : f.body = f.body.dropLast ++ [f.wire.getLastD 0] := by
  obtain hnil | ⟨content, last, hbody⟩ := f.body.eq_nil_or_concat'
  · simpa [hnil] using length_body f
  · have hwire : f.wire = 0xC3 :: f.body := rfl
    rw [hwire, hbody, ← List.cons_append, List.getLastD_concat, List.dropLast_concat]

/-- The body begins with the payload's length, which fits a byte (R169, R171). -/
theorem body_eq_cons : f.body = byte f.payload.length :: f.body.tail := rfl

end

/-! ### One byte of a frame -/

section
variable {f : Frame} {d : Device} {b : Byte} {got : List Byte} (hp : f.payload.length ≤ 56)
  (ha : d.link.assembly = .assembling got)
include hp

/-- The bytes of a whole frame pass the CRC and are delivered (R172, R174). -/
theorem completeFrame_body : d.completeFrame f.body = (d.setAssembly .hunting).deliverFrame f := by
  have hcovered : byteAt f.body 0 + 3 = f.covered.length := by
    rw [body_eq_cons, byteAt_cons_zero, toNat_byte (by omega), length_covered]
  unfold Device.completeFrame
  rw [hcovered, Frame.body, List.take_left, List.drop_left]
  refine (if_pos rfl).trans ?_
  simp [Frame.covered]

include ha

/-- A byte within a frame is kept (R171, R173). -/
theorem receiveByte_within {rest : List Byte} (hbody : f.body = got ++ b :: rest) (hrest : rest ≠ []) :
    d.receiveByte b = d.setAssembly (.assembling (got ++ [b])) := by
  have hlength := length_body f
  have hpos := List.length_pos_iff.mpr hrest
  cases got with
  | nil =>
    obtain rfl : byte f.payload.length = b := (List.cons.inj ((body_eq_cons f).symm.trans hbody)).1
    exact receiveByte_length ha (by rw [toNat_byte (by omega)]; exact hp)
  | cons len more =>
    obtain rfl : byte f.payload.length = len := (List.cons.inj ((body_eq_cons f).symm.trans hbody)).1
    rw [hbody, List.length_append, List.length_cons, List.length_cons] at hlength
    exact receiveByte_content ha (by rw [toNat_byte (by omega)]; omega)

/-- The last byte of a frame delivers it (R172, R174). -/
theorem receiveByte_completes (hbody : f.body = got ++ [b]) :
    d.receiveByte b = (d.setAssembly .hunting).deliverFrame f := by
  have hlength := length_body f
  rw [hbody, List.length_append, List.length_singleton] at hlength
  cases got with
  | nil => simp at hlength
  | cons len more =>
    obtain rfl : byte f.payload.length = len := (List.cons.inj ((body_eq_cons f).symm.trans hbody)).1
    rw [List.length_cons] at hlength
    rw [receiveByte_last ha (by rw [toNat_byte (by omega)]; omega), ← completeFrame_body hp, hbody]

end

/-- An assembly set to what it holds is left. -/
theorem setAssembly_self {d : Device} {a : Assembly} (h : d.link.assembly = a) : d.setAssembly a = d := by
  rw [← h]
  rfl

/-! ### A run over the bytes -/

/-- A run goes on from the state that its first step leaves. -/
theorem run_succ {M : Host.Core} {s t : M.State} (h : M.step s = .next t) (k : Nat) : M.run (k + 1) s = M.run k t := by
  rw [Host.Core.run, h]

/-- A run whose first command is a byte goes on from what the byte does to the device. -/
theorem run_byte {s : State} {c : Instr} {b : Byte} {rest : List Instr} {d : Device} (hm : s.mode = .running)
    (hq : s.pending = c :: rest) (hc : ∀ s', exec c s' = whileRunning (Device.receiveByte b) s')
    (hd : s.toDevice.receiveByte b = d) (k : Nat) :
    Host.Core.run Sys2Proof.core (k + 1) s =
      Host.Core.run Sys2Proof.core k ({ s with toDevice := d, pending := rest } : State) := by
  have hstep : step s = .next { s with toDevice := d, pending := rest } := by
    rw [stepRunsFrontCommand s c rest hq, hc, ← hd]
    exact whileRunning_running (s := { s with pending := rest }) hm _
  exact run_succ (M := Sys2Proof.core) (by exact hstep) k

/-- The state in which the bytes `got` of a frame have been received and the commands `queue` wait. -/
def State.receiving (s : State) (got : List Byte) (queue : List Instr) : State :=
  { s with toDevice := s.toDevice.setAssembly (.assembling got), pending := queue }

section
variable {s : State} (hm : s.mode = .running) {f : Frame} (hp : f.payload.length ≤ 56)
include hm hp

/-- The content bytes of a frame are received one after another (R173). -/
theorem run_content {last : Byte} (content : List Byte) (k : Nat) (rest : List Instr) {got : List Byte}
    (hbody : f.body = got ++ (content ++ [last])) :
    Host.Core.run Sys2Proof.core (content.length + k)
        (s.receiving got (content.map Instr.frameContentByte ++ rest)) =
      Host.Core.run Sys2Proof.core k (s.receiving (got ++ content) rest) := by
  induction content generalizing got with
  | nil => rw [List.append_nil, List.length_nil, Nat.zero_add]; rfl
  | cons b content ih =>
    have hb := receiveByte_within (d := s.toDevice.setAssembly (.assembling got)) hp rfl hbody (by simp)
    calc Host.Core.run Sys2Proof.core ((b :: content).length + k)
            (s.receiving got ((b :: content).map Instr.frameContentByte ++ rest))
        = Host.Core.run Sys2Proof.core (content.length + k)
            (s.receiving (got ++ [b]) (content.map Instr.frameContentByte ++ rest)) := by
          rw [List.length_cons, Nat.add_right_comm]
          exact run_byte (s := s.receiving _ _) hm rfl (fun _ => rfl) hb _
      _ = Host.Core.run Sys2Proof.core k (s.receiving (got ++ b :: content) rest) := by
          rw [ih (by simpa using hbody), List.append_assoc]
          rfl

/-- From HUNTING, a frame received byte by byte is delivered once (R170 to R174). -/
theorem run_receptions (ha : s.link.assembly = .hunting) (rest : List Instr) :
    Host.Core.run Sys2Proof.core (f.payload.length + 6) { s with pending := f.receptions ++ rest } =
      .next { s with toDevice := s.toDevice.deliverFrame f, pending := rest } := by
  have hqueue : f.receptions ++ rest = .startByte ::
      (f.body.dropLast.map .frameContentByte ++ (.frameReceived (f.wire.getLastD 0) :: rest)) := by
    rw [Frame.receptions, wire_drop_one, List.append_assoc]
    rfl
  have hlast : (s.toDevice.setAssembly (.assembling f.body.dropLast)).receiveByte (f.wire.getLastD 0) =
      s.toDevice.deliverFrame f := by
    rw [receiveByte_completes hp rfl (body_eq_content_append f)]
    show (s.toDevice.setAssembly .hunting).deliverFrame f = _
    rw [setAssembly_self ha]
  have hlength : f.payload.length + 5 = f.body.dropLast.length + 1 := by
    rw [List.length_dropLast, length_body]
    rfl
  calc Host.Core.run Sys2Proof.core (f.payload.length + 6) ({ s with pending := f.receptions ++ rest } : State)
      = Host.Core.run Sys2Proof.core (f.payload.length + 5) (s.receiving []
          (f.body.dropLast.map .frameContentByte ++ (.frameReceived (f.wire.getLastD 0) :: rest))) :=
        run_byte (s := { s with pending := f.receptions ++ rest }) hm hqueue (fun _ => rfl) (receiveByte_start ha) _
    _ = Host.Core.run Sys2Proof.core 1
          (s.receiving f.body.dropLast (.frameReceived (f.wire.getLastD 0) :: rest)) := by
        rw [hlength, run_content hm hp _ _ _ (body_eq_content_append f)]
        rfl
    _ = .next { s with toDevice := s.toDevice.deliverFrame f, pending := rest } :=
        run_byte (s := s.receiving _ _) hm rfl (fun _ => rfl) hlast 0

end

/-- Settles O7: the last byte delivers the frame that the request command delivers. -/
theorem frameReceivedByteByByte : Obligations.FrameReceivedByteByByte := by
  constructor
  · intro s r tag p hm hp ha
    rw [wire_drop_one] at ha
    refine ⟨s.become ((s.toDevice.setAssembly .hunting).deliverFrame (r.frame tag p)), ?_, ?_⟩
    · refine (whileRunning_running hm _).trans ?_
      rw [receiveByte_completes (f := r.frame tag p) hp ha (body_eq_content_append _)]
    · rw [exec_command]
      exact whileRunning_running (by exact hm) _
  · intro s tag p rest hm ha hp
    refine ⟨fun r => ?_, fun kind _ => ?_⟩
    · rw [exec_command]
      exact (run_receptions hm (f := r.frame tag p) hp ha rest).trans
        (whileRunning_running (s := { s with pending := rest }) hm _).symm
    · exact (run_receptions hm (f := ⟨kind, tag, p⟩) hp ha rest).trans
        (whileRunning_running (s := { s with pending := rest }) hm _).symm

end Sys2Proof.Machine
end

section
/-! RESTART: judged as a CHECK_CONF of watch 0, and what a renewal leaves (R184, R185). -/

namespace Sys2Proof.Machine

/-- With no frame waiting the dispatcher is at its end. -/
theorem dispatchFrames_nil {d : Device} (h : d.link.receiveQueue = []) (fuel : Nat) : dispatchFrames fuel d = d := by
  cases fuel with
  | zero => rfl
  | succ fuel => rw [dispatchFrames, h]

section
variable {d d' : Device} {r : WatchRec} {tag : Byte} (h : d.watches[(0 : Fin 16)] = some r)
include h

/-- Out of step a RESTART is answered as a CHECK_CONF (R184). -/
theorem takeRestart_outOfStep (hj : d.confirm 0 r id = (d', .outOfStep)) :
    takeRestart [] d = (d', 0x19 :: d'.reported 0) := by
  rw [takeRestart, if_neg (by decide), restartConfirm, h]
  dsimp only
  rw [hj, checkinAnswer_eq]
  rfl

/-- A renewing RESTART discards the frames that wait and makes the restart pending, and is answered with what the
renewal left (R184, R185). -/
theorem takeRestart_renews (hj : d.confirm 0 r id = (d', .ok)) :
    takeRestart [] d =
      (d'.withLink { d.link with receiveQueue := [], restartPending := true }, 0x00 :: d'.checkinFields 0) := by
  have hlink : d'.link = d.link := by
    rw [← (confirm_blind (w := 0) (r := r) id).link_eq d, hj]
  rw [takeRestart, if_neg (by decide), restartConfirm, h]
  dsimp only
  rw [hj, checkinReply_eq_checkinFields, ← hlink]
  rfl

/-- The frames behind a renewing RESTART do not matter: they are discarded (R185). -/
theorem takeRestart_withWaiting (hj : d.confirm 0 r id = (d', .ok)) (waiting : List Frame) :
    takeRestart [] (d.withWaiting waiting) = takeRestart [] d := by
  have hj' : (d.withWaiting waiting).confirm 0 r id = (d'.withLink (d.withWaiting waiting).link, .ok) := by
    rw [Device.withWaiting, confirm_blind, hj]
    rfl
  rw [takeRestart_renews h hj, takeRestart_renews (by exact h) hj']
  rfl

/-- A renewing RESTART at the front of the receive queue is taken where the reply queue has room, and the frames behind
it are not (R176, R185). -/
theorem dispatch_restart (hj : d.confirm 0 r id = (d', .ok)) (hlen : d.link.replyQueue.length < 4)
    (hp : d.link.restartPending = false) (waiting : List Frame) :
    (d.withWaiting (Request.restart.frame tag [] :: waiting)).dispatch =
      Device.answered .restart tag (takeRestart [] d) := by
  have hnone : (Device.answered .restart tag (takeRestart [] d)).link.receiveQueue = [] := by
    rw [takeRestart_renews h hj, Device.answered, LinkPort.answered]
    dsimp only
    split <;> rfl
  have htaken : ((d.withWaiting waiting).takeFrame (Request.restart.frame tag [])).arbitrate =
      Device.answered .restart tag (takeRestart [] d) := by
    rw [takeFrame_arbitrate, ← takeRestart_withWaiting h hj waiting]
    rfl
  calc (d.withWaiting (Request.restart.frame tag [] :: waiting)).dispatch
      = dispatchFrames waiting.length
          (((d.withWaiting waiting).takeFrame (Request.restart.frame tag [])).arbitrate) :=
        dispatchFrames_cons (d := d.withWaiting (Request.restart.frame tag [] :: waiting)) rfl hlen hp waiting.length
    _ = Device.answered .restart tag (takeRestart [] d) := by
        rw [htaken, dispatchFrames_nil hnone]

end

/-- Settles O37: both are judged by the one phase rule, taken at once or from the front of the receive queue. -/
theorem restartBecomesPending : Obligations.RestartBecomesPending := by
  have hlate {s : State} {r : WatchRec} (hmin : r.minInterval = 0)
      (hlast : ∀ l, r.lastRenewal = some l → l ≤ s.elapsed) :
      ∀ l, r.lastRenewal = some l → l + r.minInterval ≤ s.elapsed := by
    simpa [hmin] using hlast
  constructor
  · intro s tag r hready hr hsrc hs hmin hlast
    refine ⟨(s.toDevice.confirm 0 r id).1, fun hph => ?_, fun hph => ?_⟩
    · have hj := confirm_opened (d := s.toDevice) (w := 0) hph id
      rw [hj]
      exact ⟨exec_taken hready .checkConf tag (takeCheckConf_judged hr hsrc hs hj),
        exec_taken hready .restart tag (takeRestart_outOfStep hr hj)⟩
    · have hj := confirm_renews (d := s.toDevice) (w := 0) hph (hlate hmin hlast) id
      rw [hj]
      exact ⟨exec_taken hready .checkConf tag (takeCheckConf_judged hr hsrc hs hj),
        exec_taken hready .restart tag (takeRestart_renews hr hj)⟩
  · intro s tag r f q replies waiting hm ht hq hlen hw hp hr hsrc hs hmin hlast hph s'
    have hready : s'.ready := ⟨hm, rfl, hlen, hp⟩
    have hj := confirm_renews (d := s'.toDevice) (w := 0) hph (hlate (s := s') hmin hlast) id
    refine ⟨s'.toDevice.renew 0 (r.movePhase .opened),
      exec_taken hready .checkConf tag (takeCheckConf_judged (d := s'.toDevice) hr hsrc hs hj), ?_⟩
    have harbitrate : s.toDevice.freed.arbitrate =
        s'.toDevice.withWaiting (Request.restart.frame tag [] :: waiting) := by
      rw [arbitrate_reply (d := s.toDevice.freed) rfl hq, ← hw]
      rfl
    rw [exec_transmitComplete hm ht fun h => absurd (hp.symm.trans h) Bool.false_ne_true, Device.pump, harbitrate,
      dispatch_restart (by exact hr) hj hlen hp, takeRestart_renews (by exact hr) hj]
    rfl

end Sys2Proof.Machine
end

section
/-! The codes of the requests (Table 11-2), and the layouts of fields, frames and characters on the link (R168, R169,
R172, R188). -/

namespace Sys2Proof.Machine

/-! ### The codes of the requests (Table 11-2) -/

/-- A kind names a request exactly where it is that request's code (R189). -/
theorem ofCode_eq_some_iff {kind : Byte} {r : Request} : Request.ofCode kind = some r ↔ r.code = kind := by
  constructor
  · intro h
    simpa using List.find?_some h
  · rintro rfl
    exact Request.ofCode_code r

/-- Settles O4: the codes are read off the table of the requests. -/
theorem requestCodesAsTabled : Obligations.RequestCodesAsTabled :=
  ⟨rfl, fun _ _ => ofCode_eq_some_iff⟩

/-! ### The bytes of a field (R188) -/

/-- A field's byte at an offset counts down from its most significant one (R188). -/
theorem beBytes_getElem? {k n i : Nat} (hi : i < k) :
    (beBytes k n)[i]? = some (BitVec.ofNat 8 (n / 256 ^ (k - 1 - i))) := by
  induction k generalizing n with
  | zero => omega
  | succ k ih =>
    rw [beBytes]
    by_cases hlast : i = k
    · subst hlast
      simp
    · have hk : i < k := by omega
      have hexp : k + 1 - 1 - i = (k - 1 - i) + 1 := by omega
      rw [List.getElem?_append_left (by simpa using hk), ih hk, hexp, pow_succ', Nat.div_div_eq_div_mul]

/-- A word is two bytes, the high one first (R188). -/
theorem beBytes_two_toNat (c : BitVec 16) : beBytes 2 c.toNat = [(c >>> 8).setWidth 8, c.setWidth 8] := by
  have hhigh : BitVec.ofNat 8 (c.toNat / 256) = (c >>> 8).setWidth 8 := by
    apply BitVec.eq_of_toNat_eq
    simp [Nat.shiftRight_eq_div_pow]
  simp [beBytes, hhigh]

/-! ### The CRC of bytes followed by their CRC (R172) -/

/-- The generator is not added while the bits shifted out are those above a byte. -/
theorem crcShift_shiftLeft (b : Byte) {i : Nat} (hi : i < 8) :
    crcShift (b.setWidth 16 <<< i) = b.setWidth 16 <<< (i + 1) := by
  have htop : (b.setWidth 16 <<< i).getLsbD 15 = false := by
    rw [BitVec.getLsbD_shiftLeft, BitVec.getLsbD_setWidth, BitVec.getLsbD_of_ge b (15 - i) (by omega)]
    simp
  rw [crcShift, htop, BitVec.shiftLeft_add]
  rfl

/-- The byte that cancels the high byte of the CRC moves the low byte up. -/
theorem crcByte_of_xor_eq {c : BitVec 16} {b lo : Byte} (h : c ^^^ (b.zeroExtend 16 <<< 8) = lo.setWidth 16) :
    crcByte c b = lo.setWidth 16 <<< 8 := by
  have hfirst : crcShift (lo.setWidth 16) = lo.setWidth 16 <<< 1 := by
    simpa using crcShift_shiftLeft lo (i := 0) (by decide)
  rw [crcByte, h, hfirst]
  simp (disch := decide) only [crcShift_shiftLeft]

/-- The CRC's high byte leaves its low byte, and its low byte leaves nothing. -/
theorem crcByte_crcByte_self (c : BitVec 16) :
    crcByte (crcByte c ((c >>> 8).setWidth 8)) (c.setWidth 8) = 0 := by
  have hhigh : c ^^^ (((c >>> 8).setWidth 8 : Byte).zeroExtend 16 <<< 8) = (c.setWidth 8 : Byte).setWidth 16 := by
    ext i hi
    by_cases hlow : i < 8
    · simp [hlow, BitVec.getLsbD_eq_getElem hi]
    · have hback : 8 + (i - 8) = i := by omega
      have hbyte : i - 8 < 8 := by omega
      simp [hlow, hback, hbyte, BitVec.getLsbD_eq_getElem hi]
  have hlow : (c.setWidth 8 : Byte).setWidth 16 <<< 8 ^^^ ((c.setWidth 8 : Byte).zeroExtend 16 <<< 8) =
      (0 : Byte).setWidth 16 := by
    simp
  rw [crcByte_of_xor_eq hhigh, crcByte_of_xor_eq hlow]
  rfl

/-- A receiver may run the CRC over the CRC bytes too, and compare with 0 (R172). -/
theorem crc16_append_crc (bytes : List Byte) : crc16 (bytes ++ beBytes 2 (crc16 bytes).toNat) = 0 := by
  rw [beBytes_two_toNat]
  unfold crc16
  rw [List.foldl_append]
  exact crcByte_crcByte_self _

/-! ### The levels of a character (R168) -/

/-- The data bits stand behind the start bit, least significant first. -/
theorem character_getElem?_data (b : Byte) {i : Nat} (hi : i < 8) :
    (character b)[i + 1]? = some (bitLevel (b.getLsbD i)) := by
  simp [character, List.getElem?_append, hi]

/-- The level of each bit time of a character. -/
theorem character_getElem? (b : Byte) {i : Nat} (hi : i < 10) :
    (character b)[i]? = some (if i = 0 then .low else if i = 9 then .high
      else if b.getLsbD (i - 1) then .high else .low) := by
  by_cases hstart : i = 0
  · simp [hstart, character]
  by_cases hstop : i = 9
  · simp [hstop, character]
  obtain ⟨j, rfl⟩ := Nat.exists_eq_succ_of_ne_zero hstart
  rw [Nat.succ_eq_add_one, character_getElem?_data b (by omega)]
  simp [hstop, bitLevel]

/-- The receiver does not read the stop bit (log entry 10). -/
theorem characterByte_set_stop (b : Byte) (stop : Level) : characterByte ((character b).set 9 stop) = b := by
  refine BitVec.eq_of_getLsbD_eq fun i hi => ?_
  have hbit : ((character b).set 9 stop)[i + 1]? = some (bitLevel (b.getLsbD i)) := by
    rw [List.getElem?_set_ne (by omega), character_getElem?_data b hi]
  refine (setOf_getLsbD _ ⟨i, hi⟩).trans ?_
  rw [hbit]
  cases b.getLsbD i <;> rfl

/-! ### The characters of a frame on TXD (R168, R169) -/

/-- The level at a bit time is one of the character that the bit time falls in. -/
theorem flatMap_character_getElem? (bytes : List Byte) (bit : Nat) :
    (bytes.flatMap character)[bit]? = bytes[bit / 10]?.bind fun b => (character b)[bit % 10]? := by
  induction bytes generalizing bit with
  | nil => simp
  | cons b bytes ih =>
    rw [List.flatMap_cons]
    by_cases hfirst : bit < 10
    · rw [List.getElem?_append_left (by simpa using hfirst), Nat.div_eq_of_lt hfirst, Nat.mod_eq_of_lt hfirst]
      rfl
    · obtain ⟨later, rfl⟩ := Nat.exists_eq_add_of_le (not_lt.mp hfirst)
      rw [List.getElem?_append_right (by simp), length_character, Nat.add_sub_cancel_left, ih,
        Nat.add_div_left _ (by decide), Nat.add_mod_left]
      rfl

theorem length_wire (f : Frame) : f.wire.length = f.payload.length + 6 := by
  have hwire : f.wire = 0xC3 :: f.body := rfl
  rw [hwire, List.length_cons, length_body]

section
variable {d : Device} {f : Frame} (hm : d.mode = .running) (hf : d.link.transmitting = some f)
include hm hf

theorem txd_transmitting (bit : Nat) : d.txd bit = (f.levels[bit]?).getD .high := by
  simp [Device.txd, Device.inReset, hm, hf]

/-- TXD is HIGH after the last character (R168). -/
theorem txd_after_frame {bit : Nat} (hbit : 10 * (f.payload.length + 6) ≤ bit) : d.txd bit = .high := by
  have hend : f.wire[bit / 10]? = none := by
    rw [List.getElem?_eq_none_iff, length_wire]
    omega
  rw [txd_transmitting hm hf, Frame.levels, flatMap_character_getElem?, hend]
  rfl

/-- Within a frame TXD is at the level of the byte's character. -/
theorem txd_within_frame {bit : Nat} {b : Byte} (hb : f.wire[bit / 10]? = some b) :
    d.txd bit = if bit % 10 = 0 then .low else if bit % 10 = 9 then .high
      else if b.getLsbD (bit % 10 - 1) then .high else .low := by
  rw [txd_transmitting hm hf, Frame.levels, flatMap_character_getElem?, hb, Option.bind_some,
    character_getElem? b (Nat.mod_lt bit (by decide)), Option.getD_some]

end

/-- Settles O5: field bytes, CRC residue, characters, and the levels of TXD. -/
theorem fieldCrcAndCharacterBits : Obligations.FieldCrcAndCharacterBits :=
  ⟨fun k n => ⟨length_beBytes k n, beValue_beBytes k n, fun _ hi => beBytes_getElem? hi⟩,
    crc16_append_crc,
    fun b stop => ⟨length_character b, characterByte_set_stop b stop⟩,
    fun _ bit hm => ⟨fun hfree => Device.txd_free hfree bit,
      fun _ hf => ⟨txd_after_frame hm hf, fun _ hb => txd_within_frame hm hf hb⟩⟩⟩

end Sys2Proof.Machine
end
